-- ==== Sys2Proof/Word.lean ====
section
/-! DEFINITION. The byte, fixed-length byte arrays, and their plainest operations (spec 00_scope.md R14, R15). -/

namespace Sys2Proof

/-- A byte: 8 bits, bit 7 the most significant (R14). -/
abbrev Byte := BitVec 8

/-- A byte array of fixed length `n`, counted from 0 (R15). -/
abbrev Bytes (n : Nat) := Vector Byte n

/-- The array of length `n` whose byte `t` is `f t`. -/
def tabulate (n : Nat) (f : Nat → Byte) : Bytes n :=
  ⟨((List.range n).map f).toArray, by simp⟩

/-- `A[t]` (R15). Past the end it is 0; no rule reads past the end (log 23). -/
def byteAt {n : Nat} (a : Bytes n) (t : Nat) : Byte := a.toList.getD t 0

/-- The array whose every byte is `v`. -/
def constBytes (n : Nat) (v : Byte) : Bytes n := tabulate n fun _ => v

/-- A list read as an array of length `n`: byte `t` is element `t`. -/
def ofList (n : Nat) (l : List Byte) : Bytes n := tabulate n fun t => l.getD t 0

end Sys2Proof
end

