-- ==== Sys2Proof/Config.lean ====
section
/-! DEFINITION. What is fixed for this hardware: the configuration record of spec 00_scope.md R9 and R10, the parameters of
93_implementation_defined.md U3, U9, U10, the shapes of the buffers, and the constants without a body: the cipher primitive and
the free values. Each value of R9 is typed once, here; the values of R10, the
shapes and the widths are computed from them (D29, U9; log 22). -/

namespace Sys2Proof

namespace Config

/-- PKT: bytes in a TS packet (R9). -/
abbrev PKT : Nat := 188
/-- SYNC: the sync byte (R9). -/
abbrev SYNC : Byte := 0x47#8
/-- BLK: bytes in a cipher block (R9). -/
abbrev BLK : Nat := 16
/-- KEYLEN: bytes in the Stream Key (R9). -/
abbrev KEYLEN : Nat := 16
/-- HDR: payload start without adaptation field (R9). -/
abbrev HDR : Nat := 4
/-- WIN: bytes of the search window (R9). -/
abbrev WIN : Nat := 1024
/-- SPAN: distance from the first to the third sync byte of a triple, 376 (R9). -/
abbrev SPAN : Nat := 2 * PKT
/-- RETRY_MAX: window reads per search before it fails (R9, D11). -/
abbrev RETRY_MAX : Nat := 10
/-- NSYNC: sync bytes that must line up (R9). -/
abbrev NSYNC : Nat := 3
/-- M_PUSI: mask of the payload-unit-start indicator in byte 1 (R9). -/
abbrev M_PUSI : Byte := 0x40#8
/-- M_SC: mask of the scrambling control in byte 3 (R9). -/
abbrev M_SC : Byte := 0xC0#8
/-- M_AF: mask of the adaptation-field flag in byte 3 (R9). -/
abbrev M_AF : Byte := 0x20#8
/-- AW: width in bits of LEN, CURSOR, BYTES_WRITTEN (R9, D3). -/
abbrev AW : Nat := 64

/-- SCAN_MAX = WIN − SPAN, 648 (R10). -/
abbrev SCAN_MAX : Nat := WIN - SPAN
/-- ROUNDS_MAX = (PKT − HDR) div BLK, 11 (R10). -/
abbrev ROUNDS_MAX : Nat := (PKT - HDR) / BLK
/-- TAIL_NOAF = (PKT − HDR) mod BLK, 8 (R10). -/
abbrev TAIL_NOAF : Nat := (PKT - HDR) % BLK
/-- PS_MAX_RAW: the largest unclamped payload start, 5 + 255 = 260 (R10). -/
abbrev PS_MAX_RAW : Nat := HDR + 1 + 255
/-- MIN_LOCK_LEN = SPAN + 1, 377 (R10). -/
abbrev MIN_LOCK_LEN : Nat := SPAN + 1

/-- PES_CHECK: the advisory start-code check is present (R11 (a), U10: default on; log 18). -/
def pesCheck : Bool := true

/-- RETRY_POLICY: the one value the spec defines (U3; log 18). -/
inductive RetryPolicy where
  | sameOffset
  deriving DecidableEq, Repr

/-- RETRY_POLICY of this hardware: every retry re-reads the same window (R11 (b), D12). -/
def retryPolicy : RetryPolicy := .sameOffset

/-- What a listed-nowhere offset of a stream reads as, below the stream's length (log 9). -/
abbrev unlistedByte : Byte := 0x00#8

end Config

/-- A packet: exactly PKT bytes (R31, R80). -/
abbrev Packet := Bytes Config.PKT
/-- A cipher block: BLK bytes (R15, R35). -/
abbrev Block := Bytes Config.BLK
/-- The Stream Key: KEYLEN bytes (R30). -/
abbrev Key := Bytes Config.KEYLEN
/-- The search window: WIN bytes (R34). -/
abbrev Window := Bytes Config.WIN
/-- A byte offset or a byte count of AW bits (R23 to R25, R51). -/
abbrev Offset := BitVec Config.AW

/-- `ZERO16` (R15). -/
def zero16 : Block := constBytes Config.BLK 0

namespace Config

/-- `DecryptBlock(c, k)`, the external cipher primitive: a total function of its two arguments, nothing else known of it
(R15, R59, D24; log 6). -/
opaque decryptBlock : Block → Key → Block

/-- Byte `t` of the `n`-th buffer content that the spec leaves without a value (R34, R197, U5; log 7). -/
opaque freeByte : Nat → Nat → Byte

end Config

end Sys2Proof
end

