-- ==== Sys2Proof/Syntax.lean ====
section
/-! DEFINITION. The rows of spec/opcode_table.json as one inductive `Instr`, with their operands: the header fields of
30_encoding.md R81, the window position of R100, the lead byte of R98. -/

namespace Sys2Proof

/-- The header bits that R81 does not name (R95): kept so that a decoded header loses no bit, read by no meaning (log 16). -/
structure Unnamed where
  /-- byte 1, bit 7 -/
  b1hi : BitVec 1
  /-- byte 1, bits 5 to 0 -/
  b1lo : BitVec 6
  /-- byte 2 -/
  b2 : BitVec 8
  /-- byte 3, bits 4 to 0 -/
  b3lo : BitVec 5
  deriving DecidableEq, Repr

/-- Operands of the two pass-through classes with a sync byte: pusi and af are "any" and not read (R113, R114). -/
structure PassHeader where
  pusi : Bool
  af : Bool
  rest : Unnamed
  deriving DecidableEq, Repr

/-- Operands of the two scrambled classes (R117, R118): pusi (R83), the parity bit P[3][6] (R90). -/
structure DescHeader where
  pusi : Bool
  parity : Bool
  rest : Unnamed
  deriving DecidableEq, Repr

/-- Operands of REJECT: the four header bytes, of which only byte 0 is looked at (R112). -/
structure RejectHeader where
  b0 : Byte
  b1 : Byte
  b2 : Byte
  b3 : Byte
  deriving DecidableEq, Repr

/-- The five packet classes of format TSHDR (R88), with their operands: what the descrambler's header parse answers. -/
inductive PacketClass where
  | passClear (h : PassHeader)
  | passRsvd (h : PassHeader)
  | descNoaf (h : DescHeader)
  | descAf (h : DescHeader) (afLen : Byte)
  | reject (h : RejectHeader)
  deriving DecidableEq, Repr

/-- One constructor per row of spec/opcode_table.json, in the table's order. -/
inductive Instr where
  /-- PASS_CLEAR (R113) -/
  | passClear (h : PassHeader)
  /-- PASS_RSVD (R114) -/
  | passRsvd (h : PassHeader)
  /-- DESC_NOAF (R117) -/
  | descNoaf (h : DescHeader)
  /-- DESC_AF (R118); `afLen` is P[4] (R86) -/
  | descAf (h : DescHeader) (afLen : Byte)
  /-- REJECT (R112) -/
  | reject (h : RejectHeader)
  /-- SYNC_TRIPLE at window position `i` (R142) -/
  | syncTriple (i : Nat)
  /-- LEAD_OK (R169) -/
  | leadOk
  /-- LEAD_LOSS (R170); `lead` is P[0] -/
  | leadLoss (lead : Byte)
  deriving DecidableEq, Repr

/-- The row of the opcode table that a packet class is. -/
def PacketClass.toInstr : PacketClass → Instr
  | .passClear h => .passClear h
  | .passRsvd h => .passRsvd h
  | .descNoaf h => .descNoaf h
  | .descAf h l => .descAf h l
  | .reject h => .reject h

/-- The three decode formats (R80); WIN3 is decoded at a position of the window. -/
inductive Format where
  | tshdr
  | lead
  | win3 (i : Nat)
  deriving DecidableEq, Repr

/-- The format of a row. -/
def Instr.format : Instr → Format
  | .passClear _ => .tshdr
  | .passRsvd _ => .tshdr
  | .descNoaf _ => .tshdr
  | .descAf _ _ => .tshdr
  | .reject _ => .tshdr
  | .syncTriple i => .win3 i
  | .leadOk => .lead
  | .leadLoss _ => .lead

end Sys2Proof
end

