-- ==== Sys2Proof/WellFormed.lean ====
section
/-! DEFINITION. Which terms of `Instr` the encoding admits. Three rows carry a condition: REJECT and LEAD_LOSS are fallback rows
(30_encoding.md R89, R98), and a triple lies inside the window (R100). -/

namespace Sys2Proof

/-- `i` is a term the encoding admits. -/
def Instr.wf : Instr → Bool
  | .passClear _ => true
  | .passRsvd _ => true
  | .descNoaf _ => true
  | .descAf _ _ => true
  | .reject h => h.b0 != Config.SYNC
  | .syncTriple i => decide (i + Config.SPAN < Config.WIN)
  | .leadOk => true
  | .leadLoss lead => lead != Config.SYNC

end Sys2Proof
end

