-- ==== Sys2Proof/Decode.lean ====
section
/-! DEFINITION. The decoder of the three formats (30_encoding.md R80 to R90, R98, R100), total on any bytes and rejecting by name,
and after it the encoder, written from the same tables. -/

namespace Sys2Proof

/-- Why bytes are no term of a format. -/
inductive DecodeError where
  /-- TSHDR: fewer bytes than the header needs (R81, R86) -/
  | shortHeader
  /-- LEAD: no byte at all (R98) -/
  | noLeadByte
  /-- WIN3: `i + 376 < WLEN` does not hold (R100) -/
  | outsideWindow
  /-- WIN3: the position is not a candidate (R142) -/
  | noTriple
  deriving DecidableEq, Repr

/-! ### Header fields (R82 to R86, R95) -/

/-- `pusi = (P[1] & 0x40) != 0` (R83). -/
def pusiOf (b1 : Byte) : Bool := (b1 &&& Config.M_PUSI) != 0

/-- `sc = P[3] & 0xC0`, one of four byte values (R84). -/
def scOf (b3 : Byte) : Byte := b3 &&& Config.M_SC

/-- `af = (P[3] & 0x20) != 0` (R85). -/
def afOf (b3 : Byte) : Bool := (b3 &&& Config.M_AF) != 0

/-- The parity bit `P[3][6]` (R90). -/
def parityOf (b3 : Byte) : Bool := b3.getLsbD 6

/-- The unnamed bits (R95). -/
def unnamedOf (b1 b2 b3 : Byte) : Unnamed :=
  { b1hi := b1.extractLsb' 7 1, b1lo := b1.extractLsb' 0 6, b2 := b2, b3lo := b3.extractLsb' 0 5 }

def passHeaderOf (b1 b2 b3 : Byte) : PassHeader :=
  { pusi := pusiOf b1, af := afOf b3, rest := unnamedOf b1 b2 b3 }

def descHeaderOf (b1 b2 b3 : Byte) : DescHeader :=
  { pusi := pusiOf b1, parity := parityOf b3, rest := unnamedOf b1 b2 b3 }

/-! ### The class decode (R88) -/

/-- `class(P)`: first sync, only then sc, only then af; `b4` is read only for DESC_AF (R86, R88, R91). -/
def classOfHeader (b0 b1 b2 b3 b4 : Byte) : PacketClass :=
  if b0 ≠ Config.SYNC then .reject { b0 := b0, b1 := b1, b2 := b2, b3 := b3 }
  else if scOf b3 = 0x00#8 then .passClear (passHeaderOf b1 b2 b3)
  else if scOf b3 = 0x40#8 then .passRsvd (passHeaderOf b1 b2 b3)
  else if afOf b3 = false then .descNoaf (descHeaderOf b1 b2 b3)
  else .descAf (descHeaderOf b1 b2 b3) b4

/-- The class of a whole packet (R88). -/
def classOf (p : Packet) : PacketClass :=
  classOfHeader (byteAt p 0) (byteAt p 1) (byteAt p 2) (byteAt p 3) (byteAt p 4)

/-- Format LEAD on the byte it looks at (R98). -/
def leadOf (b0 : Byte) : Instr := if b0 = Config.SYNC then .leadOk else .leadLoss b0

/-- `triple(W, i)` (R100, R142): NSYNC bytes at stride PKT compared and no other looked at. -/
def triple (w : Window) (i : Nat) : Bool :=
  (List.range Config.NSYNC).all fun k => byteAt w (i + k * Config.PKT) == Config.SYNC

/-! ### The decoder on bytes -/

/-- TSHDR on a list of bytes: four header bytes, and a fifth where the class has a length byte. -/
def decodeTshdr : List Byte → Except DecodeError Instr
  | b0 :: b1 :: b2 :: b3 :: [] =>
    match classOfHeader b0 b1 b2 b3 0 with
    | .descAf _ _ => .error .shortHeader
    | .passClear h => .ok (.passClear h)
    | .passRsvd h => .ok (.passRsvd h)
    | .descNoaf h => .ok (.descNoaf h)
    | .reject h => .ok (.reject h)
  | b0 :: b1 :: b2 :: b3 :: b4 :: _ => .ok (classOfHeader b0 b1 b2 b3 b4).toInstr
  | _ => .error .shortHeader

/-- LEAD on a list of bytes. -/
def decodeLead : List Byte → Except DecodeError Instr
  | b0 :: _ => .ok (leadOf b0)
  | [] => .error .noLeadByte

/-- WIN3 at position `i` of a list of valid window bytes (R100). -/
def decodeWin3 (i : Nat) (l : List Byte) : Except DecodeError Instr :=
  if i + Config.SPAN < l.length ∧ l.length ≤ Config.WIN then
    if triple (ofList Config.WIN l) i then .ok (.syncTriple i) else .error .noTriple
  else .error .outsideWindow

/-- The decoder: a format and the bytes it is applied to. -/
def decode : Format → List Byte → Except DecodeError Instr
  | .tshdr, l => decodeTshdr l
  | .lead, l => decodeLead l
  | .win3 i, l => decodeWin3 i l

/-! ### The encoder -/

/-- Byte 1 from its fields (R81). -/
def encodeByte1 (pusi : Bool) (u : Unnamed) : Byte := u.b1hi ++ BitVec.ofBool pusi ++ u.b1lo

/-- Byte 3 from sc, af and the unnamed bits (R81). -/
def encodeByte3 (sc : BitVec 2) (af : Bool) (u : Unnamed) : Byte := sc ++ BitVec.ofBool af ++ u.b3lo

/-- The two sc bits of a scrambled value: `1x`, x the parity (R84, R90). -/
def scScrambled (parity : Bool) : BitVec 2 := 1#1 ++ BitVec.ofBool parity

/-- The window bytes of a triple at `i`: 0x47 at `i`, `i+188`, `i+376`, the others (don't-care) 0. -/
def encodeTriple (i : Nat) : List Byte :=
  (List.range (i + Config.SPAN + 1)).map fun t =>
    if t = i ∨ t = i + Config.PKT ∨ t = i + Config.SPAN then Config.SYNC else 0

/-- The bytes of a row's encoding (R81, R89, R98, R100). -/
def encode : Instr → List Byte
  | .passClear h => [Config.SYNC, encodeByte1 h.pusi h.rest, h.rest.b2, encodeByte3 0b00#2 h.af h.rest]
  | .passRsvd h => [Config.SYNC, encodeByte1 h.pusi h.rest, h.rest.b2, encodeByte3 0b01#2 h.af h.rest]
  | .descNoaf h =>
    [Config.SYNC, encodeByte1 h.pusi h.rest, h.rest.b2, encodeByte3 (scScrambled h.parity) false h.rest]
  | .descAf h l =>
    [Config.SYNC, encodeByte1 h.pusi h.rest, h.rest.b2, encodeByte3 (scScrambled h.parity) true h.rest, l]
  | .reject h => [h.b0, h.b1, h.b2, h.b3]
  | .syncTriple i => encodeTriple i
  | .leadOk => [Config.SYNC]
  | .leadLoss lead => [lead]

/-! ### The opcode table's own numbering -/

/-- Byte `k` of a number, byte 0 the least significant. -/
def natByte (w k : Nat) : Byte := BitVec.ofNat 8 (w / 2 ^ (8 * k))

/-- The header bytes of a table word `H` (R87: `P[0]` is `H[31:24]`), with a zero fifth byte: the bits above the row's are 0. -/
def headerBytesOf (w : Nat) : List Byte := [natByte w 3, natByte w 2, natByte w 1, natByte w 0, 0]

/-- The window bytes of a table word `T` (note of the row SYNC_TRIPLE), at position 0. -/
def windowBytesOf (w : Nat) : List Byte :=
  (List.range (Config.SPAN + 1)).map fun t =>
    if t = 0 then natByte w 2 else if t = Config.PKT then natByte w 1 else if t = Config.SPAN then natByte w 0 else 0

/-- What the decoder reads from an instruction whose bits are `w`, numbered as the opcode table numbers them. The row's width
names its format: 8 bits LEAD, 24 bits WIN3 (at position 0), 32 bits TSHDR; the table has no other width (log 14). -/
def decodeTableWord (nbits w : Nat) : Option Instr :=
  if nbits = 8 then (decode .lead [natByte w 0]).toOption
  else if nbits = 24 then (decode (.win3 0) (windowBytesOf w)).toOption
  else if nbits = 32 then (decode .tshdr (headerBytesOf w)).toOption
  else none

end Sys2Proof
end

