-- ==== Sys2Proof/Machine/State.lean ====
section
/-! DEFINITION. The state of the core, held whole (10_state.md R20, R40), the reasons a step can stop, and the state after reset
(R42, 70_reset_and_hazards.md R220). Plain data throughout. -/

namespace Sys2Proof.Machine

/-- The five states of the driver (R21). -/
inductive DrvState where
  | init
  | searching
  | locked
  | done
  | failed
  deriving DecidableEq, Repr

/-- The causes of FAILED (R28). -/
inductive FailCause where
  /-- NONE -/
  | noCause
  /-- SYNC_EXHAUSTED -/
  | syncExhausted
  /-- SRC_IO -/
  | srcIo
  /-- SNK_IO -/
  | snkIo
  deriving DecidableEq, Repr

/-- The status of a source or sink transaction (20_memory.md R57). -/
inductive IoStatus where
  | ok
  | err
  deriving DecidableEq, Repr

/-- The sideband of an append (R56). -/
structure Sideband where
  wasScr : Bool
  rsvd : Bool
  pesWarn : Bool
  deriving DecidableEq, Repr

/-- One record of the transaction trace (R70, R101). An answer `none` is the status `err`. -/
inductive Txn where
  /-- `Len(st, n)` -/
  | len (answer : Option Offset)
  /-- `Read(addr, n, st, B)` -/
  | read (addr : Offset) (n : Nat) (answer : Option (List Byte))
  /-- `Cipher(c, k, d)` -/
  | cipher (c : Block) (k : Key) (d : Block)
  /-- `Write(addr, v, side, st)` -/
  | write (addr : Offset) (v : Packet) (side : Sideband) (st : IoStatus)
  deriving DecidableEq, Repr

/-- The events E1 to E7 with the information each records (60_exceptions.md R190). -/
inductive Event where
  | notSync (b0 : Byte)
  | reservedSc (b3 : Byte)
  | pesMismatch (ps : Nat)
  | syncLoss (cursor : Offset)
  | syncExhausted (cursor : Offset)
  | srcIoError (offset : Offset)
  | snkIoError (offset : Offset)
  deriving DecidableEq, Repr

/-- What the host does at one step of the machine (70_reset_and_hazards.md R228; log 4). -/
inductive HostAct where
  /-- no request: the core may take its step -/
  | idle
  /-- `rst` asserted (R220) -/
  | rst
  /-- `start` asserted with these bytes on KEY_IN (R222) -/
  | start (keyIn : Key)
  /-- another source attached (R224 step 2) -/
  | attach (bytes : List Byte)
  deriving DecidableEq, Repr

/-- Bytes by offset: strictly rising offsets, no entry equal to what an unlisted offset reads as (log 9). -/
structure Memory where
  cells : List Host.Cell
  deriving DecidableEq, Repr

/-- The canonical form. -/
def Memory.wf (m : Memory) : Bool :=
  decide (m.cells.Pairwise fun x y => x.1 < y.1) && m.cells.all fun c => c.2 != Config.unlistedByte

/-- Every entry lies below `n`: no offset at or past a stream's length holds anything (R51, R54). -/
def Memory.within (m : Memory) (n : Nat) : Bool := m.cells.all fun c => decide (c.1 < n)

/-- The state of the core and, after it, the state and inputs of its environment (R20, R40). -/
structure State where
  /-- DRV_STATE (R21) -/
  drvState : DrvState
  /-- STARTED (R29) -/
  started : Bool
  /-- CURSOR (R23) -/
  cursor : Offset
  /-- LEN (R24) -/
  len : Offset
  /-- BYTES_WRITTEN (R25) -/
  bytesWritten : Offset
  /-- RETRY (R27) -/
  retry : BitVec 4
  /-- FAIL_CAUSE (R28) -/
  failCause : FailCause
  /-- KEY (R30) -/
  key : Key
  /-- P, the input packet buffer (R31) -/
  p : Packet
  /-- O, the output packet buffer (R32) -/
  o : Packet
  /-- IV, the chaining register (R35) -/
  iv : Block
  /-- W, the search window buffer (R34) -/
  w : Window
  /-- WLEN (R34) -/
  wlen : BitVec 11
  /-- WAS_SCR (R36) -/
  wasScr : Bool
  /-- RSVD (R36) -/
  rsvd : Bool
  /-- PES_WARN (R36) -/
  pesWarn : Bool
  /-- SRC, the source contents (R51) -/
  src : Memory
  /-- the number of bytes of the source, what `SrcLen` answers (R52, R226) -/
  srcLen : Offset
  /-- SNK, the sink contents (R54) -/
  snk : Memory
  /-- the number of bytes in the sink -/
  snkLen : Nat
  /-- the sink offset at which the run began (R54; log 19) -/
  runBase : Nat
  /-- what the host does at the coming steps (log 4); after the list it does nothing -/
  host : List HostAct
  /-- the statuses the environment answers with, one per transaction (R57; log 5) -/
  ioDraws : List IoStatus
  /-- the status of every transaction after `ioDraws` (log 5) -/
  ioRest : IoStatus
  /-- the transaction trace (R70), oldest first -/
  trace : List Txn
  /-- the event history (R190), oldest first -/
  events : List Event
  /-- the MODEL's own field: how many free buffer contents have been taken (log 7) -/
  freeCount : Nat
  deriving DecidableEq, Repr

/-- Where a step of the machine stops. No meaning of a row raises one; no reachable state does (log 11). -/
inductive Fault where
  /-- Raised by a source read whose offset is greater than the source's length: R53's precondition, R51 "no other offset holds
  anything". Unreachable, since CURSOR never exceeds LEN (R26). Safe. -/
  | readBeyondSource
  deriving DecidableEq, Repr

/-- What the model gives no meaning to. -/
inductive Refusal where
  /-- Raised by the arm of an instruction that has no meaning yet. Safe. -/
  | notModelled (mnemonic : String)
  /-- Raised by the packet read when fewer than 188 bytes come back although `LEN − CURSOR >= 188`: LEN is not the true length of
  the source, to which "the spec gives no meaning" (R226, U6; log 11). Safe. -/
  | lengthNotTrue
  /-- Raised when the host attaches another source during a run: "if the host breaks the duty the spec says nothing of the run"
  (R68, U6; log 10). Safe. -/
  | sourceChangedDuringRun
  /-- Raised when the host attaches a source of 2^64 bytes or more, outside the model (R226, U6; log 10). Safe. -/
  | sourceTooLong
  deriving DecidableEq, Repr

/-- The machine right after reset (R42). The registers R42 leaves unspecified hold the values log 1 names; the environment is
empty and silent (log 2). -/
def State.reset : State where
  drvState := .init
  started := false
  cursor := 0
  len := 0
  bytesWritten := 0
  retry := 0
  failCause := .noCause
  key := constBytes Config.KEYLEN 0
  p := constBytes Config.PKT 0
  o := constBytes Config.PKT 0
  iv := zero16
  w := constBytes Config.WIN 0
  wlen := 0
  wasScr := false
  rsvd := false
  pesWarn := false
  src := { cells := [] }
  srcLen := 0
  snk := { cells := [] }
  snkLen := 0
  runBase := 0
  host := []
  ioDraws := []
  ioRest := .ok
  trace := []
  events := []
  freeCount := 0

end Sys2Proof.Machine
end

