-- ==== Sys2Proof/Machine/Operands.lean ====
section
/-! DEFINITION. Operand assembly: the payload start, the round count, the tail and the block positions (30_encoding.md R91 to R94),
and the block arithmetic of the CBC loop (00_scope.md R15). -/

namespace Sys2Proof.Machine

/-- `ps` of DESC_NOAF (R91). -/
def psNoaf : Nat := Config.HDR

/-- `ps_raw` of DESC_AF: natural addition, 5 to 260, never wrapped (R91, D31). -/
def psRawAf (afLen : Byte) : Nat := Config.HDR + 1 + afLen.toNat

/-- `ps` of DESC_AF, clamped to 188 (R91). -/
def psAf (afLen : Byte) : Nat := min (psRawAf afLen) Config.PKT

/-- `rounds = (188 − ps) div 16` (R92). -/
def roundsOf (ps : Nat) : Nat := (Config.PKT - ps) / Config.BLK

/-- `tail = (188 − ps) mod 16` (R93). -/
def tailOf (ps : Nat) : Nat := (Config.PKT - ps) % Config.BLK

/-- Start of block `i` (R94). -/
def blockStart (ps i : Nat) : Nat := ps + Config.BLK * i

/-- The 16 bytes of a packet from index `a` on. -/
def blockAt (p : Packet) (a : Nat) : Block := tabulate Config.BLK fun j => byteAt p (a + j)

/-- `xor16(a, b)` (R15). -/
def xor16 (a b : Block) : Block := tabulate Config.BLK fun j => byteAt a j ^^^ byteAt b j

/-- A packet with the 16 bytes from index `a` on replaced. -/
def putBlock (o : Packet) (a : Nat) (b : Block) : Packet :=
  tabulate Config.PKT fun t => if a ≤ t ∧ t < a + Config.BLK then byteAt b (t - a) else byteAt o t

/-- A packet with byte `t` replaced. -/
def putByte (o : Packet) (a : Nat) (b : Byte) : Packet := tabulate Config.PKT fun t => if t = a then b else byteAt o t

/-- Byte 3 with the scrambling-control bits cleared: `P[3] & 0x3F` (40_descrambler.md R119). -/
def clearSc (b3 : Byte) : Byte := b3 &&& ~~~Config.M_SC

end Sys2Proof.Machine
end

