-- ==== Sys2Proof/Machine/Flags.lean ====
section
/-! DEFINITION. The per-packet result flags (10_state.md R36): the start-code check (40_descrambler.md R124) and the flags of each
kind of class (R112 to R115, R125, R126). -/

namespace Sys2Proof.Machine

/-- The first three payload bytes are `00 00 01` (R124). -/
def hasStartCode (o : Packet) (ps : Nat) : Bool :=
  byteAt o ps == 0x00#8 && byteAt o (ps + 1) == 0x00#8 && byteAt o (ps + 2) == 0x01#8

/-- `pes_check(P, O, ps, rounds)` (R124): only with pusi set and at least one round. `on` is the parameter PES_CHECK (U10). -/
def pesCheckWith (on pusi : Bool) (o : Packet) (ps rounds : Nat) : Bool :=
  on && pusi && decide (1 ≤ rounds) && !hasStartCode o ps

/-- The flags of REJECT and PASS_CLEAR (R112, R113). -/
def flagsNone : Sideband := { wasScr := false, rsvd := false, pesWarn := false }

/-- The flags of PASS_RSVD (R114). -/
def flagsRsvd : Sideband := { wasScr := false, rsvd := true, pesWarn := false }

/-- The flags of the two scrambled classes (R115). -/
def flagsDesc (warn : Bool) : Sideband := { wasScr := true, rsvd := false, pesWarn := warn }

end Sys2Proof.Machine
end

