-- ==== Sys2Proof/Machine/Ops.lean ====
section
/-! DEFINITION. The named operations every meaning and every step is built of: the byte memories, the register writes, the port
transactions (20_memory.md R52, R53, R55), the entry into FAILED and into recovery and the return from it (60_exceptions.md R201,
R202, R204), and the outputs (10_state.md R33). -/

namespace Sys2Proof.Machine

/-! ### Byte memories (log 9) -/

/-- The byte listed at `a`, or what an unlisted offset reads as. -/
def readCells : List Host.Cell → Nat → Byte
  | [], _ => Config.unlistedByte
  | c :: m, a => if c.1 = a then c.2 else readCells m a

/-- The cells with byte `b` at `a`, in canonical form. -/
def writeCells : List Host.Cell → Nat → Byte → List Host.Cell
  | [], a, b => if b = Config.unlistedByte then [] else [(a, b)]
  | c :: m, a, b =>
    if a < c.1 then (if b = Config.unlistedByte then c :: m else (a, b) :: c :: m)
    else if a = c.1 then (if b = Config.unlistedByte then m else (a, b) :: m)
    else c :: writeCells m a b

/-- The empty memory. -/
def Memory.empty : Memory := { cells := [] }

/-- Read one byte. -/
def Memory.read (m : Memory) (a : Nat) : Byte := readCells m.cells a

/-- Write one byte, keeping the canonical form. -/
def Memory.write (m : Memory) (a : Nat) (b : Byte) : Memory := { cells := writeCells m.cells a b }

/-- The `n` bytes from `a` on, in rising offset (R60). -/
def Memory.readBytes (m : Memory) (a n : Nat) : List Byte := (List.range n).map fun t => m.read (a + t)

/-- Write a list of bytes from `a` on, in rising offset (R60). -/
def Memory.writeBytes (m : Memory) (a : Nat) : List Byte → Memory
  | [] => m
  | b :: l => (m.write a b).writeBytes (a + 1) l

/-- The memory that holds exactly these bytes from offset 0 on. -/
def Memory.ofBytes (l : List Byte) : Memory := Memory.empty.writeBytes 0 l

/-! ### Register writes -/

namespace State

def setDrvState (s : State) (d : DrvState) : State := { s with drvState := d }
def setCursor (s : State) (c : Offset) : State := { s with cursor := c }
def setLen (s : State) (n : Offset) : State := { s with len := n }
def setBytesWritten (s : State) (n : Offset) : State := { s with bytesWritten := n }
def setRetry (s : State) (r : BitVec 4) : State := { s with retry := r }
def setFailCause (s : State) (c : FailCause) : State := { s with failCause := c }
def setStarted (s : State) (b : Bool) : State := { s with started := b }
def setKey (s : State) (k : Key) : State := { s with key := k }
def setP (s : State) (v : Packet) : State := { s with p := v }
def setO (s : State) (v : Packet) : State := { s with o := v }
def setIv (s : State) (v : Block) : State := { s with iv := v }
def setWindow (s : State) (v : Window) (n : BitVec 11) : State := { s with w := v, wlen := n }
def setFlags (s : State) (f : Sideband) : State :=
  { s with wasScr := f.wasScr, rsvd := f.rsvd, pesWarn := f.pesWarn }
def setSource (s : State) (m : Memory) (n : Offset) : State := { s with src := m, srcLen := n }
def setSink (s : State) (m : Memory) (n : Nat) : State := { s with snk := m, snkLen := n }
def setRunBase (s : State) (n : Nat) : State := { s with runBase := n }
def setHost (s : State) (l : List HostAct) : State := { s with host := l }
def setIoDraws (s : State) (l : List IoStatus) : State := { s with ioDraws := l }
/-- Append records to the transaction trace (R70). -/
def record (s : State) (l : List Txn) : State := { s with trace := s.trace ++ l }
/-- `raise`: append events to the history (00_scope.md R16). -/
def raise (s : State) (l : List Event) : State := { s with events := s.events ++ l }
/-- One more free buffer content has been taken (log 7). -/
def tookFree (s : State) : State := { s with freeCount := s.freeCount + 1 }

/-- The sideband of the packet (R56). -/
def sideband (s : State) : Sideband := { wasScr := s.wasScr, rsvd := s.rsvd, pesWarn := s.pesWarn }

/-! ### Outputs (R22, R33, R210) -/

/-- The DRV_STATE output (R21). -/
def outDrvState (s : State) : BitVec 3 :=
  match s.drvState with
  | .init => 0
  | .searching => 1
  | .locked => 2
  | .done => 3
  | .failed => 4

/-- SYNC_LOCKED (R22). -/
def outSyncLocked (s : State) : Bool := s.drvState == .locked
/-- DONE (R33). -/
def outDone (s : State) : Bool := s.drvState == .done
/-- FAILED (R33). -/
def outFailed (s : State) : Bool := s.drvState == .failed
/-- EXIT_STATUS = FAIL_CAUSE (R28, R210). -/
def outExitStatus (s : State) : BitVec 2 :=
  match s.failCause with
  | .noCause => 0
  | .syncExhausted => 1
  | .srcIo => 2
  | .snkIo => 3
/-- The BYTES_WRITTEN output (R33). -/
def outBytesWritten (s : State) : Offset := s.bytesWritten
/-- The CURSOR output (R33). -/
def outCursor (s : State) : Offset := s.cursor

/-! ### I/O statuses (R57; log 5) -/

/-- The status the environment answers the next transaction with. -/
def nextStatus (s : State) : IoStatus :=
  match s.ioDraws with
  | [] => s.ioRest
  | d :: _ => d

/-- That status has been used. -/
def dropStatus (s : State) : State := s.setIoDraws s.ioDraws.tail

/-! ### Buffers that hold no value (R34, R197, U5; log 7) -/

/-- P "holds no value": every byte is free. -/
def losePacket (s : State) : State := (s.setP (tabulate Config.PKT (Config.freeByte s.freeCount))).tookFree

/-- W "holds no value": every byte is free; WLEN keeps its value (log 8). -/
def loseWindow (s : State) : State := (s.setWindow (tabulate Config.WIN (Config.freeByte s.freeCount)) s.wlen).tookFree

/-- `WLEN <- len(B) ; W[0..WLEN) <- B`; the bytes from WLEN on hold no value (R34, R141). -/
def fillWindow (s : State) (l : List Byte) : State :=
  (s.setWindow (tabulate Config.WIN fun t => if t < l.length then l.getD t 0 else Config.freeByte s.freeCount t)
    (BitVec.ofNat _ l.length)).tookFree

/-- `P <- B` (R166). -/
def fillPacket (s : State) (l : List Byte) : State := s.setP (ofList Config.PKT l)

/-! ### Port transactions -/

/-- What `SrcLen()` answers (R52): the true length (R226), or none with status err. -/
def srcLenAnswer (s : State) : Option Offset :=
  match s.nextStatus with
  | .ok => some s.srcLen
  | .err => none

/-- The state after `SrcLen()`. -/
def afterSrcLen (s : State) : State := s.dropStatus.record [.len s.srcLenAnswer]

/-- What `MemRead(addr, n)` answers (R53): `SRC[addr .. addr + min(n, LEN − addr))`, or none with status err. -/
def readAnswer (s : State) (addr : Offset) (n : Nat) : Option (List Byte) :=
  match s.nextStatus with
  | .ok => some (s.src.readBytes addr.toNat (min n (s.srcLen.toNat - addr.toNat)))
  | .err => none

/-- The state after `MemRead(addr, n)`. -/
def afterRead (s : State) (addr : Offset) (n : Nat) : State := s.dropStatus.record [.read addr n (s.readAnswer addr n)]

/-- `MemRead(addr, n)` (R53): an offset past the end of the source does not exist (R51). -/
def memRead (s : State) (addr : Offset) (n : Nat) : Host.Outcome (Option (List Byte) × State) Fault Refusal :=
  if s.srcLen.toNat < addr.toNat then .fault .readBeyondSource
  else .next (s.readAnswer addr n, s.afterRead addr n)

/-- `MemWrite(BYTES_WRITTEN, 188, O)` with sideband, on status `st` (R55): one indivisible append, or nothing. -/
def afterWrite (s : State) : State :=
  let rec1 := (s.dropStatus.record [.write s.bytesWritten s.o s.sideband s.nextStatus])
  match s.nextStatus with
  | .ok => rec1.setSink (s.snk.writeBytes s.snkLen s.o.toList) (s.snkLen + Config.PKT)
  | .err => rec1

/-! ### Entry into FAILED, entry into recovery, return from recovery -/

/-- Entry into FAILED with a cause and the event that is raised (R202). -/
def enterFailed (s : State) (c : FailCause) (e : Event) : State :=
  ((s.raise [e]).setFailCause c).setDrvState .failed

/-- Entry into recovery: SyncLoss (R195, R201, 42_driver.md R170). CURSOR is the record of where sync was lost. -/
def enterRecovery (s : State) : State := ((s.raise [.syncLoss s.cursor]).setRetry 0).setDrvState .searching

/-- Return from recovery, which is also the first lock: `CURSOR <- CURSOR + i ; DRV_STATE <- LOCKED` (R145, R164, R204). -/
def lockAt (s : State) (i : Nat) : State := (s.setCursor (s.cursor + BitVec.ofNat _ i)).setDrvState .locked

end State

end Sys2Proof.Machine
end

