-- ==== Sys2Proof/Machine/Descrambler.lean ====
section
/-! DEFINITION. The packet descrambler (40_descrambler.md): the CBC loop, the contract `decrypt`, and the meanings of REJECT,
PASS_CLEAR, PASS_RSVD, DESC_NOAF, DESC_AF. The pure part takes the cipher `D` as an argument (R59). -/

namespace Sys2Proof.Machine

/-- What the descrambler leaves for one packet (R110): the output, the chaining register where it was used, the flags, and for the
histories the cipher calls and the events. -/
structure PacketResult where
  output : Packet
  iv : Option Block
  flags : Sideband
  calls : List Txn
  events : List Event
  deriving DecidableEq, Repr

/-- The registers the CBC loop works on, and its cipher calls. -/
structure CbcState where
  o : Packet
  iv : Block
  calls : List Txn
  deriving DecidableEq, Repr

/-- Round `i` of the loop of R115: `c` from P, `d <- DecryptBlock(c, KEY)`, the block of O, `IV <- c`. -/
def cbcRound (D : Block → Key → Block) (key : Key) (p : Packet) (ps i : Nat) (st : CbcState) : CbcState :=
  let c := blockAt p (blockStart ps i)
  let d := D c key
  { o := putBlock st.o (blockStart ps i) (xor16 d st.iv), iv := c, calls := st.calls ++ [.cipher c key d] }

/-- Rounds 0 to `n − 1`, in this order (R115, R123). -/
def cbcLoop (D : Block → Key → Block) (key : Key) (p : Packet) (ps : Nat) : Nat → CbcState → CbcState
  | 0, st => st
  | n + 1, st => cbcRound D key p ps n (cbcLoop D key p ps n st)

/-- Before the loop: a copy of P with the scrambling-control bits cleared, and a zero IV (R115, R119, R121). -/
def cbcStart (p : Packet) : CbcState :=
  { o := putByte p 3 (clearSc (byteAt p 3)), iv := zero16, calls := [] }

/-- The end of the loop for a packet with payload start `ps`. -/
def cbcEnd (D : Block → Key → Block) (key : Key) (p : Packet) (ps : Nat) : CbcState :=
  cbcLoop D key p ps (roundsOf ps) (cbcStart p)

/-- `raise PesMismatch(ps)` when the check warns (R124). -/
def warnEvents (ps : Nat) : Bool → List Event
  | false => []
  | true => [.pesMismatch ps]

/-- `descramble(P, KEY, ps)` (R115), with the event of R124. -/
def descrambleWith (D : Block → Key → Block) (on pusi : Bool) (ps : Nat) (p : Packet) (key : Key) : PacketResult :=
  let st := cbcEnd D key p ps
  let warn := pesCheckWith on pusi st.o ps (roundsOf ps)
  { output := st.o, iv := some st.iv, flags := flagsDesc warn, calls := st.calls,
    events := warnEvents ps warn }

/-- A verbatim copy with these flags and events and no cipher call (R112, R113, R114). -/
def verbatim (p : Packet) (f : Sideband) (e : List Event) : PacketResult :=
  { output := p, iv := none, flags := f, calls := [], events := e }

/-- The contract `decrypt(packet, key)` (R110), class by class (R112 to R118). -/
def decryptWith (D : Block → Key → Block) (on : Bool) (p : Packet) (key : Key) : PacketResult :=
  match classOf p with
  | .reject _ => verbatim p flagsNone [.notSync (byteAt p 0)]
  | .passClear _ => verbatim p flagsNone []
  | .passRsvd _ => verbatim p flagsRsvd [.reservedSc (byteAt p 3)]
  | .descNoaf h => descrambleWith D on h.pusi psNoaf p key
  | .descAf h l => descrambleWith D on h.pusi (psAf l) p key

/-- `decrypt` of this hardware: its cipher, its PES_CHECK. -/
def decrypt (p : Packet) (key : Key) : PacketResult := decryptWith Config.decryptBlock Config.pesCheck p key

/-- IV after a packet: left alone where the loop was not entered. -/
def State.leaveIv (s : State) : Option Block → State
  | none => s
  | some v => s.setIv v

/-- The descrambler's outputs written to O, IV and the flags; its calls and events to the histories. -/
def State.deliver (s : State) (r : PacketResult) : State :=
  ((((s.setO r.output).leaveIv r.iv).setFlags r.flags).record r.calls).raise r.events

/-- PASS_CLEAR (R113). -/
def execPassClear (_h : PassHeader) (s : State) : Host.Outcome State Fault Refusal :=
  .next (s.deliver (verbatim s.p flagsNone []))

/-- PASS_RSVD (R114): byte 3 included, the bits stay 01. -/
def execPassRsvd (_h : PassHeader) (s : State) : Host.Outcome State Fault Refusal :=
  .next (s.deliver (verbatim s.p flagsRsvd [.reservedSc (byteAt s.p 3)]))

/-- DESC_NOAF (R117). -/
def execDescNoaf (h : DescHeader) (s : State) : Host.Outcome State Fault Refusal :=
  .next (s.deliver (descrambleWith Config.decryptBlock Config.pesCheck h.pusi psNoaf s.p s.key))

/-- DESC_AF (R118). -/
def execDescAf (h : DescHeader) (afLen : Byte) (s : State) : Host.Outcome State Fault Refusal :=
  .next (s.deliver (descrambleWith Config.decryptBlock Config.pesCheck h.pusi (psAf afLen) s.p s.key))

/-- REJECT (R112). -/
def execReject (_h : RejectHeader) (s : State) : Host.Outcome State Fault Refusal :=
  .next (s.deliver (verbatim s.p flagsNone [.notSync (byteAt s.p 0)]))

/-- The descrambler's dispatch on the class it decoded (R88, R111 step 3). -/
def runClass (c : PacketClass) (s : State) : Host.Outcome State Fault Refusal :=
  match c with
  | .passClear h => execPassClear h s
  | .passRsvd h => execPassRsvd h s
  | .descNoaf h => execDescNoaf h s
  | .descAf h l => execDescAf h l s
  | .reject h => execReject h s

end Sys2Proof.Machine
end

