-- ==== Sys2Proof/Machine/Synchronizer.lean ====
section
/-! DEFINITION. The stream synchronizer (41_synchronizer.md): the scan, the meaning of SYNC_TRIPLE, and the failed attempt. -/

namespace Sys2Proof.Machine

/-- SCAN (R143, R144): the least `i` with `i + 376 < WLEN` at which the triple holds. For `WLEN <= 376` the range is empty. -/
def scan (w : Window) (wlen : Nat) : Option Nat := (List.range (wlen - Config.SPAN)).find? (triple w)

/-- SYNC_TRIPLE accepted at window position `i` (R142, R145). -/
def execSyncTriple (i : Nat) (s : State) : Host.Outcome State Fault Refusal := .next (s.lockAt i)

/-- An attempt that found no triple: RETRY (R146), and NOT_FOUND at the tenth (R147). RETRY_POLICY is same_offset: CURSOR stays. -/
def searchMiss (s : State) : State :=
  match Config.retryPolicy with
  | .sameOffset =>
    let s1 := s.setRetry (s.retry + 1)
    if s1.retry = BitVec.ofNat _ Config.RETRY_MAX then s1.enterFailed .syncExhausted (.syncExhausted s.cursor) else s1

end Sys2Proof.Machine
end

