-- ==== Sys2Proof/Machine/Driver.lean ====
section
/-! DEFINITION. The driver's two patterns (42_driver.md): the meanings of LEAD_OK and LEAD_LOSS. -/

namespace Sys2Proof.Machine

/-- The append of a consumed packet and the advance of both counters, or SnkIoError with neither (R166, R169, R198). -/
def appendPacket (s : State) : State :=
  match s.nextStatus with
  | .ok =>
    (s.afterWrite.setBytesWritten (s.bytesWritten + BitVec.ofNat _ Config.PKT)).setCursor
      (s.cursor + BitVec.ofNat _ Config.PKT)
  | .err => s.afterWrite.enterFailed .snkIo (.snkIoError s.bytesWritten)

/-- LEAD_OK (R169): the packet in P is descrambled by its class, the result appended, both counters advanced. -/
def execLeadOk (s : State) : Host.Outcome State Fault Refusal :=
  match runClass (classOf s.p) s with
  | .next s1 => .next (appendPacket s1)
  | .fault f => .fault f
  | .refused r => .refused r

/-- LEAD_LOSS (R170): SyncLoss; nothing appended, CURSOR left where it is. -/
def execLeadLoss (_lead : Byte) (s : State) : Host.Outcome State Fault Refusal := .next s.enterRecovery

end Sys2Proof.Machine
end

