-- ==== Sys2Proof/Machine/Dispatch.lean ====
section
/-! DEFINITION. One arm per row of spec/opcode_table.json. -/

namespace Sys2Proof.Machine

def exec (i : Instr) (s : State) : Host.Outcome State Fault Refusal :=
  match i with
  | .passClear h => Sys2Proof.Machine.execPassClear h s
  | .passRsvd h => Sys2Proof.Machine.execPassRsvd h s
  | .descNoaf h => Sys2Proof.Machine.execDescNoaf h s
  | .descAf h afLen => Sys2Proof.Machine.execDescAf h afLen s
  | .reject h => Sys2Proof.Machine.execReject h s
  | .syncTriple pos => Sys2Proof.Machine.execSyncTriple pos s
  | .leadOk => Sys2Proof.Machine.execLeadOk s
  | .leadLoss lead => Sys2Proof.Machine.execLeadLoss lead s

end Sys2Proof.Machine
end

