-- ==== Sys2Proof/Machine/Sequencer.lean ====
section
/-! DEFINITION. The steps of the machine: STEP_INIT, STEP_SEARCH, STEP_LOCKED (42_driver.md R162, R163, R166), the host's reset,
start and attach (70_reset_and_hazards.md R220, R222, R224), and where an instruction is fetched. -/

namespace Sys2Proof.Machine

/-! ### Core steps -/

/-- STEP_INIT (R162). -/
def stepInit (s : State) : Host.Outcome State Fault Refusal :=
  match s.srcLenAnswer with
  | none => .next (s.afterSrcLen.enterFailed .srcIo (.srcIoError 0))
  | some n => .next (((((s.afterSrcLen.setLen n).setCursor 0).setBytesWritten 0).setRetry 0).setDrvState .searching)

/-- The scan of an attempt whose window is in W (R163): the least triple is run as SYNC_TRIPLE, none is a failed attempt. -/
def searchWindow (s : State) : Host.Outcome State Fault Refusal :=
  match scan s.w s.wlen.toNat with
  | some i => exec (.syncTriple i) s
  | none => .next (searchMiss s)

/-- STEP_SEARCH (R163): one attempt. -/
def stepSearch (s : State) : Host.Outcome State Fault Refusal :=
  match s.memRead s.cursor Config.WIN with
  | .fault f => .fault f
  | .refused r => .refused r
  | .next (none, s1) => .next (s1.loseWindow.enterFailed .srcIo (.srcIoError s.cursor))
  | .next (some l, s1) => searchWindow (s1.fillWindow l)

/-- STEP_LOCKED (R166): the end-of-stream test (R167), the packet read, and the lead byte's pattern run (R168, R98). -/
def stepLocked (s : State) : Host.Outcome State Fault Refusal :=
  if s.len.toNat - s.cursor.toNat < Config.PKT then .next (s.setDrvState .done)
  else
    match s.memRead s.cursor Config.PKT with
    | .fault f => .fault f
    | .refused r => .refused r
    | .next (none, s1) => .next (s1.losePacket.enterFailed .srcIo (.srcIoError s.cursor))
    | .next (some l, s1) =>
      if l.length = Config.PKT then exec (leadOf (l.getD 0 0)) (s1.fillPacket l) else .refused .lengthNotTrue

/-- The core's step: the one that is enabled; where none is, nothing changes (R171, U13; log 3). -/
def coreStep (s : State) : Host.Outcome State Fault Refusal :=
  match s.drvState with
  | .init => if s.started then stepInit s else .next s
  | .searching => stepSearch s
  | .locked => stepLocked s
  | .done => .next s
  | .failed => .next s

/-! ### Host steps -/

/-- The reset step (R220): every register at its reset value (R42, log 1, log 20); the environment and the histories untouched. -/
def resetStep (s : State) : State :=
  { State.reset with
    src := s.src, srcLen := s.srcLen, snk := s.snk, snkLen := s.snkLen, runBase := s.runBase,
    host := s.host, ioDraws := s.ioDraws, ioRest := s.ioRest,
    trace := s.trace, events := s.events, freeCount := s.freeCount }

/-- The start step (R222), ignored where its guard does not hold. The sink's bytes from here on are this run's (R54; log 19). -/
def startStep (keyIn : Key) (s : State) : State :=
  if s.drvState = .init ∧ s.started = false then ((s.setKey keyIn).setStarted true).setRunBase s.snkLen else s

/-- A run is going on: from the start step to a terminal state. -/
def runGoesOn (s : State) : Bool :=
  match s.drvState with
  | .init => s.started
  | .searching => true
  | .locked => true
  | .done => false
  | .failed => false

/-- Attaching a source (R224 step 2). During a run it breaks a duty (R68, U6); 2^64 bytes or more are outside the model (R226). -/
def attachStep (l : List Byte) (s : State) : Host.Outcome State Fault Refusal :=
  if runGoesOn s then .refused .sourceChangedDuringRun
  else if 2 ^ Config.AW ≤ l.length then .refused .sourceTooLong
  else .next (s.setSource (Memory.ofBytes l) (BitVec.ofNat _ l.length))

/-- One step with a host act (R223: the host acts only between core steps). -/
def hostStep (a : HostAct) (s : State) : Host.Outcome State Fault Refusal :=
  match a with
  | .idle => coreStep s
  | .rst => .next (resetStep s)
  | .start keyIn => .next (startStep keyIn s)
  | .attach l => attachStep l s

/-- One step: the next host act if there is one, else the core's step. -/
def machineStep (s : State) : Host.Outcome State Fault Refusal :=
  match s.host with
  | [] => coreStep s
  | a :: rest => hostStep a (s.setHost rest)

/-! ### Placing an instruction where the next step fetches it (log 15) -/

/-- The source holds `l` from offset `a` on and is at least `n` bytes long; LEN is its length. -/
def State.placeBytes (s : State) (a : Nat) (l : List Byte) (n : Nat) : State :=
  let m : Offset := BitVec.ofNat _ (max s.srcLen.toNat n)
  (s.setSource (s.src.writeBytes a l) m).setLen m

/-- No host act and no I/O error comes in before the core's next step has read. -/
def State.letRun (s : State) : State :=
  { s with host := .idle :: s.host, ioDraws := .ok :: s.ioDraws, started := true, failCause := .noCause }

/-- A LEAD or TSHDR word: the first bytes of the packet at CURSOR, in LOCKED. -/
def State.placeHeader (s : State) (l : List Byte) : State :=
  (s.placeBytes s.cursor.toNat l (s.cursor.toNat + Config.PKT)).letRun.setDrvState .locked

/-- A WIN3 word: the three bytes of position 0 of the window at CURSOR, in SEARCHING. -/
def State.placeTriple (s : State) (b0 b1 b2 : Byte) : State :=
  let a := s.cursor.toNat
  (((s.placeBytes a [b0] (a + Config.MIN_LOCK_LEN)).placeBytes (a + Config.PKT) [b1] 0).placeBytes
    (a + Config.SPAN) [b2] 0).letRun.setDrvState .searching

/-- The instruction of width `nbits` and bits `w` placed where the next step fetches it. -/
def State.placeFetchWord (s : State) (nbits w : Nat) : State :=
  if nbits = 24 then s.placeTriple (natByte w 2) (natByte w 1) (natByte w 0)
  else if nbits = 8 then s.placeHeader [natByte w 0, 0, 0, 0, 0]
  else s.placeHeader (headerBytesOf w)

end Sys2Proof.Machine
end

