-- ==== Sys2Proof/Machine/Step.lean ====
section
/-! DEFINITION. One step of the machine (00_scope.md R12), and where its next instruction is placed. -/

namespace Sys2Proof.Machine

/-- One step: a core step or a host step. -/
def step (s : State) : Host.Outcome State Fault Refusal := machineStep s

/-- `s` with an instruction placed where `step` fetches next (log 15). -/
def State.withFetchWord (s : State) (nbits w : Nat) : State := s.placeFetchWord nbits w

end Sys2Proof.Machine
end

