-- ==== Sys2Proof/Safety.lean ====
section
/-! DEFINITION. The terms the statements speak in: runs, terminal states, the invariant of 10_state.md R44, the search as a function
of the source (41_synchronizer.md R148), the output relation (20_memory.md R71), and which states agree on what. -/

namespace Sys2Proof.Machine

/-- `k` steps, stopping at the first fault or refusal. -/
def steps : Nat → State → Host.Outcome State Fault Refusal
  | 0, s => .next s
  | k + 1, s =>
    match step s with
    | .next t => steps k t
    | .fault f => .fault f
    | .refused r => .refused r

/-- A safe step: the machine goes on. -/
def Safe (s : State) : Prop := ∃ t, step s = .next t

/-- DONE or FAILED (00_scope.md glossary). -/
def State.terminal (s : State) : Bool := s.drvState == .done || s.drvState == .failed

/-- The core steps next: the host does nothing at this step. -/
def State.hostQuiet (s : State) : Prop := s.host = [] ∨ ∃ rest, s.host = .idle :: rest

/-- "Every status is ok" (20_memory.md R57), a premise of statements, never of the step. -/
def State.allOk (s : State) : Prop := (∀ d ∈ s.ioDraws, d = IoStatus.ok) ∧ s.ioRest = .ok

/-- The packet of the source at offset `a`. -/
def packetAt (m : Memory) (a : Nat) : Packet := ofList Config.PKT (m.readBytes a Config.PKT)

/-- Three bytes of the source at stride 188 equal to the sync byte, the first at `a` (30_encoding.md R100 on source offsets). -/
def sourceTriple (m : Memory) (a : Nat) : Prop :=
  m.read a = Config.SYNC ∧ m.read (a + Config.PKT) = Config.SYNC ∧ m.read (a + Config.SPAN) = Config.SYNC

/-- `i` is a candidate of a search that starts at `start` in a source of `n` bytes (R148). -/
def searchCandidate (m : Memory) (n start i : Nat) : Prop :=
  i + Config.SPAN < min Config.WIN (n - start) ∧ sourceTriple m (start + i)

/-- The invariant of R44 and R26, with the canonical form of the two streams (log 9), what ties LEN to the source (R24, R52, R226), and
BYTES_WRITTEN to the sink from `runBase` on (log 19). WLEN <= 1024 (R34) holds also where the spec gives WLEN no value, by the model's
choice: at reset (log 1, log 20) and after a failed window read (log 8). -/
structure Inv (s : State) : Prop where
  /-- log 9, as the three after it -/
  srcWf : s.src.wf = true
  srcWithin : s.src.within s.srcLen.toNat = true
  snkWf : s.snk.wf = true
  snkWithin : s.snk.within s.snkLen = true
  /-- LEN is the true length while the source is read (R24, R226) -/
  lenTrue : s.drvState = .searching ∨ s.drvState = .locked → s.len = s.srcLen
  /-- R44 (a) -/
  cursorLeLen : s.cursor.toNat ≤ s.len.toNat
  /-- R44 (b) -/
  writtenWhole : s.bytesWritten.toNat % Config.PKT = 0
  writtenLeCursor : s.bytesWritten.toNat ≤ s.cursor.toNat
  /-- R44 (c) -/
  retrySearching : s.drvState = .searching → s.retry.toNat ≤ 9
  retryLe : s.retry.toNat ≤ Config.RETRY_MAX
  retryTen : s.retry.toNat = Config.RETRY_MAX ↔ s.failCause = .syncExhausted
  /-- R44 (d) -/
  causeIffFailed : s.failCause ≠ .noCause ↔ s.drvState = .failed
  /-- R44 (f) -/
  doneRest : s.drvState = .done → s.len.toNat - s.cursor.toNat < Config.PKT
  /-- R44 (g), counted from `runBase` (log 19) -/
  sinkCount : s.started = true → s.snkLen = s.runBase + s.bytesWritten.toNat
  /-- R42: what INIT holds until STEP_INIT -/
  initZero : s.drvState = .init → s.cursor = 0 ∧ s.bytesWritten = 0 ∧ s.retry = 0
  /-- R29, R162: only a started core leaves INIT -/
  startedRun : s.drvState ≠ .init → s.started = true
  /-- R34 -/
  wlenLe : s.wlen.toNat ≤ Config.WIN

/-- The values CURSOR had at each packet-consuming step among the next `k` (R71): the steps at which the sink grew. -/
def consumedOffsets : Nat → State → List Nat
  | 0, _ => []
  | k + 1, s =>
    match step s with
    | .next t => if t.snkLen = s.snkLen then consumedOffsets k t else s.cursor.toNat :: consumedOffsets k t
    | .fault _ => []
    | .refused _ => []

/-- `t` is `s` but for the registers that hold no value between steps (10_state.md R42, R43, R45): P, O, IV, W, WLEN and the flags;
LEN outside a run's reading states; KEY before the start step. -/
def SameButUnwritten (s t : State) : Prop :=
  t = { s with
    p := t.p, o := t.o, iv := t.iv, w := t.w, wlen := t.wlen, wasScr := t.wasScr, rsvd := t.rsvd, pesWarn := t.pesWarn,
    len := t.len, key := t.key } ∧
  (s.drvState = .searching ∨ s.drvState = .locked → t.len = s.len) ∧
  (¬(s.drvState = .init ∧ s.started = false) → t.key = s.key)

/-- A transaction without what the key decides in it: the key and the result of a cipher call, the data and the PES_WARN bit of an
append. A length query and a read stand whole. -/
def Txn.withoutKey : Txn → Txn
  | .len n => .len n
  | .read a n b => .read a n b
  | .cipher c _ _ => .cipher c (constBytes Config.KEYLEN 0) zero16
  | .write a _ side st => .write a (constBytes Config.PKT 0) { side with pesWarn := false } st

/-- The one event the key decides (60_exceptions.md R193). -/
def Event.isPesMismatch : Event → Bool
  | .pesMismatch _ => true
  | .notSync _ => false
  | .reservedSc _ => false
  | .syncLoss _ => false
  | .syncExhausted _ => false
  | .srcIoError _ => false
  | .snkIoError _ => false

/-- `t` is `s` but for the key and for what the descrambler computes from it (10_state.md R41): O, IV, PES_WARN, the sink's bytes (not
their number), and, in the histories, the parts of a record the key decides and the PesMismatch events. -/
def SameButKey (s t : State) : Prop :=
  t = { s with
    key := t.key, o := t.o, iv := t.iv, pesWarn := t.pesWarn, snk := t.snk, trace := t.trace, events := t.events } ∧
  t.trace.map Txn.withoutKey = s.trace.map Txn.withoutKey ∧
  t.events.filter (fun e => !e.isPesMismatch) = s.events.filter (fun e => !e.isPesMismatch)

/-- Two outcomes of a step agree: both next with related states, or the same stop. -/
def OutcomesAgree (R : State → State → Prop) : Host.Outcome State Fault Refusal → Host.Outcome State Fault Refusal → Prop
  | .next s, .next t => R s t
  | .fault f, .fault g => f = g
  | .refused r, .refused q => r = q
  | _, _ => False

/-- The pairs of 42_driver.md R161 that a core step can take, the unchanged state of R171 apart. -/
def coreTransition : DrvState → DrvState → Bool
  | .init, .searching => true
  | .init, .failed => true
  | .searching, .searching => true
  | .searching, .locked => true
  | .searching, .failed => true
  | .locked, .locked => true
  | .locked, .searching => true
  | .locked, .done => true
  | .locked, .failed => true
  | _, _ => false

/-- The events that end a step: the fatal ones and SyncLoss (60_exceptions.md R190, R200). -/
def Event.endsStep : Event → Bool
  | .notSync _ => false
  | .reservedSc _ => false
  | .pesMismatch _ => false
  | .syncLoss _ => true
  | .syncExhausted _ => true
  | .srcIoError _ => true
  | .snkIoError _ => true

/-- The chaining value of block `i`: ZERO16, or the input block before it (40_descrambler.md R120). -/
def prevBlock (p : Packet) (ps i : Nat) : Block :=
  if i = 0 then zero16 else blockAt p (blockStart ps (i - 1))

/-- The cipher call of block `i` (R123). -/
def cipherCall (D : Block → Key → Block) (key : Key) (p : Packet) (ps i : Nat) : Txn :=
  .cipher (blockAt p (blockStart ps i)) key (D (blockAt p (blockStart ps i)) key)

/-- The payload start a packet has, or would have as a scrambled packet: from af and byte 4 alone (R91, R130). -/
def payloadStart (p : Packet) : Nat := if afOf (byteAt p 3) then psAf (byteAt p 4) else psNoaf

/-- The row of the opcode table a class is, by its place there: what two packets of one class share whatever their operands. -/
def classRow : PacketClass → Nat
  | .passClear _ => 0
  | .passRsvd _ => 1
  | .descNoaf _ => 2
  | .descAf _ _ => 3
  | .reject _ => 4

/-- The class is one of the two scrambled ones. -/
def isScrambled : PacketClass → Bool
  | .passClear _ => false
  | .passRsvd _ => false
  | .descNoaf _ => true
  | .descAf _ _ => true
  | .reject _ => false

/-- The header word `H` (30_encoding.md R87). -/
def headerWord (b0 b1 b2 b3 : Byte) : BitVec 32 := b0 ++ b1 ++ b2 ++ b3

/-- `t` is `s` after `descramble(P, KEY, ps)` (R115), said without the loop: the CBC formula on every block (R120), byte 3 cleared
(R119), the header region and the tail copied (R122), the flags (R124, R126), IV, the cipher calls (R123), the event; and nothing
else is changed. -/
def Descrambled (pusi : Bool) (ps : Nat) (s t : State) : Prop :=
  (∀ i j, i < roundsOf ps → j < Config.BLK →
    byteAt t.o (blockStart ps i + j) =
      byteAt (Config.decryptBlock (blockAt s.p (blockStart ps i)) s.key) j ^^^ byteAt (prevBlock s.p ps i) j) ∧
  byteAt t.o 3 = byteAt s.p 3 &&& 0x3F#8 ∧
  (∀ a, a < ps → a ≠ 3 → byteAt t.o a = byteAt s.p a) ∧
  (∀ a, blockStart ps (roundsOf ps) ≤ a → a < Config.PKT → byteAt t.o a = byteAt s.p a) ∧
  t.wasScr = true ∧ t.rsvd = false ∧
  (t.pesWarn = true ↔ pusi = true ∧ 1 ≤ roundsOf ps ∧
    ¬(byteAt t.o ps = 0x00#8 ∧ byteAt t.o (ps + 1) = 0x00#8 ∧ byteAt t.o (ps + 2) = 0x01#8)) ∧
  t.iv = (if roundsOf ps = 0 then zero16 else blockAt s.p (blockStart ps (roundsOf ps - 1))) ∧
  t.trace = s.trace ++ (List.range (roundsOf ps)).map (cipherCall Config.decryptBlock s.key s.p ps) ∧
  t.events = s.events ++ (if t.pesWarn then [.pesMismatch ps] else []) ∧
  t = { s with
    o := t.o, iv := t.iv, wasScr := t.wasScr, rsvd := t.rsvd, pesWarn := t.pesWarn, trace := t.trace, events := t.events }

end Sys2Proof.Machine
end

