-- ==== Sys2Proof/Certificates/Slice0/Obligations.lean ====
section
/-! DEFINITION. The statements for the provers. Each docstring names the rules of spec/ it formalises. -/

open Sys2Proof Sys2Proof.Machine

/-! ### Encoding -/

/-- Every well-formed row is decoded from its own encoding, with every operand (30_encoding.md R81, R89, R98, R100). -/
def Obligations.DecodeOfEncodeIsIdentity : Prop :=
  ∀ i : Instr, i.wf = true → decode i.format (encode i) = .ok i

/-- A decoded header is well-formed, and its encoding is the bytes it was read from: no header bit is dropped (R81, R95). -/
def Obligations.EncodeOfDecodedHeaderIsItsBytes : Prop :=
  ∀ (b0 b1 b2 b3 b4 : Byte) (l : List Byte) (i : Instr),
    decode .tshdr (b0 :: b1 :: b2 :: b3 :: b4 :: l) = .ok i →
      i.wf = true ∧ i.format = .tshdr ∧ 4 ≤ (encode i).length ∧
        encode i = (b0 :: b1 :: b2 :: b3 :: b4 :: l).take (encode i).length

/-- The class map as match and mask over the header word (R89): each of the four upper rows is selected exactly by its mask and
match, and REJECT exactly when none of them matches, which is sync ≠ 0x47. -/
def Obligations.ClassMapIsMaskAndMatch : Prop :=
  ∀ b0 b1 b2 b3 b4 : Byte,
    let h := headerWord b0 b1 b2 b3
    let c := classRow (classOfHeader b0 b1 b2 b3 b4)
    (h &&& 0xFF0000C0#32 = 0x47000000#32 ↔ c = 0) ∧
    (h &&& 0xFF0000C0#32 = 0x47000040#32 ↔ c = 1) ∧
    (h &&& 0xFF0000A0#32 = 0x47000080#32 ↔ c = 2) ∧
    (h &&& 0xFF0000A0#32 = 0x470000A0#32 ↔ c = 3) ∧
    (b0 ≠ 0x47#8 ↔ c = 4)

/-- The order of the class decode (R88): sync first, then sc, then af, with the operands each class carries. -/
def Obligations.ClassIsDecidedInOrder : Prop :=
  ∀ p : Packet,
    (byteAt p 0 ≠ 0x47#8 → ∃ h, classOf p = .reject h ∧ h.b0 = byteAt p 0) ∧
    (byteAt p 0 = 0x47#8 → byteAt p 3 &&& 0xC0#8 = 0x00#8 → ∃ h, classOf p = .passClear h) ∧
    (byteAt p 0 = 0x47#8 → byteAt p 3 &&& 0xC0#8 = 0x40#8 → ∃ h, classOf p = .passRsvd h) ∧
    (byteAt p 0 = 0x47#8 → byteAt p 3 &&& 0xC0#8 ≠ 0x00#8 → byteAt p 3 &&& 0xC0#8 ≠ 0x40#8 → byteAt p 3 &&& 0x20#8 = 0x00#8 →
      ∃ h, classOf p = .descNoaf h ∧ (h.pusi = true ↔ byteAt p 1 &&& 0x40#8 ≠ 0x00#8)) ∧
    (byteAt p 0 = 0x47#8 → byteAt p 3 &&& 0xC0#8 ≠ 0x00#8 → byteAt p 3 &&& 0xC0#8 ≠ 0x40#8 → byteAt p 3 &&& 0x20#8 ≠ 0x00#8 →
      ∃ h, classOf p = .descAf h (byteAt p 4) ∧ (h.pusi = true ↔ byteAt p 1 &&& 0x40#8 ≠ 0x00#8))

/-- Words written out from R81, R89, R98 and R100 decode to the rows they stand for. -/
def Obligations.SpecWordsDecodeToTheirRows : Prop :=
  decode .tshdr [0x47, 0x00, 0x11, 0x10] =
    .ok (.passClear { pusi := false, af := false, rest := { b1hi := 0, b1lo := 0, b2 := 0x11, b3lo := 0x10 } }) ∧
  decode .tshdr [0x47, 0x00, 0x11, 0x50] =
    .ok (.passRsvd { pusi := false, af := false, rest := { b1hi := 0, b1lo := 0, b2 := 0x11, b3lo := 0x10 } }) ∧
  decode .tshdr [0x47, 0x40, 0x11, 0x90] =
    .ok (.descNoaf { pusi := true, parity := false, rest := { b1hi := 0, b1lo := 0, b2 := 0x11, b3lo := 0x10 } }) ∧
  decode .tshdr [0x47, 0x00, 0x11, 0xF0, 0x07] =
    .ok (.descAf { pusi := false, parity := true, rest := { b1hi := 0, b1lo := 0, b2 := 0x11, b3lo := 0x10 } } 0x07) ∧
  decode .tshdr [0x48, 0x00, 0x00, 0x90] = .ok (.reject { b0 := 0x48, b1 := 0x00, b2 := 0x00, b3 := 0x90 }) ∧
  decode .lead [0x47] = .ok .leadOk ∧
  decode .lead [0x33] = .ok (.leadLoss 0x33)

/-- Bits that R81 does not name, and the adaptation field after its length byte, have no effect on the class, on ps, on rounds, on
a flag or on a cipher call, and are copied to the output (R95). -/
def Obligations.UnnamedBitsAreIgnoredAndCopied : Prop :=
  ∀ (D : Block → Key → Block) (on : Bool) (key : Key) (p q : Packet),
    byteAt q 0 = byteAt p 0 → byteAt q 1 &&& 0x40#8 = byteAt p 1 &&& 0x40#8 → byteAt q 3 &&& 0xE0#8 = byteAt p 3 &&& 0xE0#8 →
    byteAt q 4 = byteAt p 4 → (∀ t, payloadStart p ≤ t → byteAt q t = byteAt p t) →
      classRow (classOf q) = classRow (classOf p) ∧ payloadStart q = payloadStart p ∧
      (decryptWith D on q key).flags = (decryptWith D on p key).flags ∧
      (decryptWith D on q key).calls = (decryptWith D on p key).calls ∧
      (∀ t, t < payloadStart q → t ≠ 3 → byteAt (decryptWith D on q key).output t = byteAt q t) ∧
      byteAt (decryptWith D on q key).output 3 &&& 0x3F#8 = byteAt q 3 &&& 0x3F#8

/-- Both scrambled values run the same descrambling with the same key (R116, R90): packets that differ only in bit 6 of byte 3 have
the same class, output, flags and cipher calls. -/
def Obligations.ParityBitIsADontCare : Prop :=
  ∀ (D : Block → Key → Block) (on : Bool) (key : Key) (p : Packet),
    byteAt p 0 = 0x47#8 → byteAt p 3 &&& 0x80#8 = 0x80#8 →
      let q := putByte p 3 (byteAt p 3 ^^^ 0x40#8)
      classRow (classOf q) = classRow (classOf p) ∧
      (decryptWith D on q key).output = (decryptWith D on p key).output ∧
      (decryptWith D on q key).flags = (decryptWith D on p key).flags ∧
      (decryptWith D on q key).calls = (decryptWith D on p key).calls

/-! ### Operands -/

/-- The payload start (R91), the round count (R92) and the table of rounds and tails by af_len (R93). -/
def Obligations.PayloadStartRoundsAndTailByLength : Prop :=
  psNoaf = 4 ∧ roundsOf 4 = 11 ∧ tailOf 4 = 8 ∧
  ∀ l : Byte,
    psAf l = min (5 + l.toNat) 188 ∧
    (l.toNat ≤ 7 → roundsOf (psAf l) = 11 ∧ tailOf (psAf l) = 7 - l.toNat) ∧
    (8 ≤ l.toNat → l.toNat ≤ 183 →
      roundsOf (psAf l) = 10 - (l.toNat - 8) / 16 ∧ tailOf (psAf l) = 15 - (l.toNat - 8) % 16) ∧
    (184 ≤ l.toNat → psAf l = 188 ∧ roundsOf (psAf l) = 0 ∧ tailOf (psAf l) = 0) ∧
    (roundsOf (psAf l) = 0 ↔ 173 ≤ psAf l)

/-- Every packet index lies in exactly one of the header region, one block, and the tail (R94). -/
def Obligations.RegionsPartitionThePacket : Prop :=
  ∀ ps, 4 ≤ ps → ps ≤ 188 →
    blockStart ps (roundsOf ps) ≤ 188 ∧ 188 - blockStart ps (roundsOf ps) = tailOf ps ∧ tailOf ps < 16 ∧
    ∀ t, t < 188 →
      (t < ps ∧ (∀ i, i < roundsOf ps → ¬(blockStart ps i ≤ t ∧ t < blockStart ps i + 16)) ∧
        t < blockStart ps (roundsOf ps)) ∨
      (ps ≤ t ∧ (∃ i, i < roundsOf ps ∧ blockStart ps i ≤ t ∧ t < blockStart ps i + 16 ∧
          ∀ k, blockStart ps k ≤ t → t < blockStart ps k + 16 → k = i) ∧
        t < blockStart ps (roundsOf ps)) ∨
      (ps ≤ t ∧ (∀ i, i < roundsOf ps → ¬(blockStart ps i ≤ t ∧ t < blockStart ps i + 16)) ∧
        blockStart ps (roundsOf ps) ≤ t)

/-! ### The five classes -/

/-- REJECT is the class of the packets without a sync byte, which the driver never hands over (R99); it completes with a verbatim
copy, all flags 0 and the event NotSync, and changes nothing else (R112). -/
def Obligations.RejectCopiesVerbatim : Prop :=
  (∀ p : Packet, byteAt p 0 ≠ 0x47#8 ↔ ∃ h, classOf p = .reject h) ∧
  (∀ (p : Packet) (h : RejectHeader), decode .lead p.toList = .ok .leadOk → classOf p ≠ .reject h) ∧
  ∀ (h : RejectHeader) (s : State),
    exec (.reject h) s = .next { s with
      o := s.p, wasScr := false, rsvd := false, pesWarn := false, events := s.events ++ [.notSync (byteAt s.p 0)] }

/-- PASS_CLEAR completes with a verbatim copy and all flags 0, and changes nothing else (R113). -/
def Obligations.PassClearCopiesVerbatim : Prop :=
  (∀ p : Packet, byteAt p 0 = 0x47#8 ∧ byteAt p 3 &&& 0xC0#8 = 0x00#8 ↔ ∃ h, classOf p = .passClear h) ∧
  ∀ (h : PassHeader) (s : State),
    exec (.passClear h) s = .next { s with o := s.p, wasScr := false, rsvd := false, pesWarn := false }

/-- PASS_RSVD completes with a verbatim copy, byte 3 included, RSVD 1 and the event ReservedSc, and changes nothing else (R114). -/
def Obligations.PassRsvdCopiesVerbatimAndSignals : Prop :=
  (∀ p : Packet, byteAt p 0 = 0x47#8 ∧ byteAt p 3 &&& 0xC0#8 = 0x40#8 ↔ ∃ h, classOf p = .passRsvd h) ∧
  ∀ (h : PassHeader) (s : State),
    exec (.passRsvd h) s = .next { s with
      o := s.p, wasScr := false, rsvd := true, pesWarn := false, events := s.events ++ [.reservedSc (byteAt s.p 3)] }

/-- DESC_NOAF completes with the descrambling from payload start 4 in eleven rounds (R117). -/
def Obligations.DescNoafDescramblesFromFour : Prop :=
  roundsOf 4 = 11 ∧ blockStart 4 0 = 4 ∧ blockStart 4 11 = 180 ∧
  (∀ p : Packet, byteAt p 0 = 0x47#8 ∧ (byteAt p 3).getLsbD 7 = true ∧ (byteAt p 3).getLsbD 5 = false ↔
    ∃ h, classOf p = .descNoaf h ∧ (h.pusi = true ↔ byteAt p 1 &&& 0x40#8 ≠ 0x00#8)) ∧
  ∀ (h : DescHeader) (s : State), ∃ t, exec (.descNoaf h) s = .next t ∧ Descrambled h.pusi 4 s t

/-- DESC_AF completes with the descrambling from payload start min(5 + L, 188), for every L, in 11 rounds for L up to 7 down to
none from L = 168 on (R118). -/
def Obligations.DescAfDescramblesAfterItsField : Prop :=
  (∀ l : Byte, (l.toNat ≤ 7 ↔ roundsOf (min (5 + l.toNat) 188) = 11) ∧ (168 ≤ l.toNat ↔ roundsOf (min (5 + l.toNat) 188) = 0)) ∧
  (∀ p : Packet, byteAt p 0 = 0x47#8 ∧ (byteAt p 3).getLsbD 7 = true ∧ (byteAt p 3).getLsbD 5 = true ↔
    ∃ h, classOf p = .descAf h (byteAt p 4) ∧ (h.pusi = true ↔ byteAt p 1 &&& 0x40#8 ≠ 0x00#8)) ∧
  ∀ (h : DescHeader) (l : Byte) (s : State),
    ∃ t, exec (.descAf h l) s = .next t ∧ Descrambled h.pusi (min (5 + l.toNat) 188) s t

/-- The CBC rule for every cipher, key, packet and payload start (R120, R121): each block is the decrypted input block XOR the
input block before it, the first one XOR sixteen zero bytes. -/
def Obligations.CbcChainsOnInputCiphertext : Prop :=
  ∀ (D : Block → Key → Block) (key : Key) (p : Packet) (ps i j : Nat),
    4 ≤ ps → ps ≤ 188 → i < roundsOf ps → j < 16 →
      byteAt (cbcEnd D key p ps).o (blockStart ps i + j) =
        byteAt (D (blockAt p (blockStart ps i)) key) j ^^^ byteAt (prevBlock p ps i) j

/-- The frame of the descrambling (R122) and the cleared bits of byte 3, also with zero rounds and for no other class (R119), for
every cipher. -/
def Obligations.DescramblingLeavesHeaderAndTail : Prop :=
  ∀ (D : Block → Key → Block) (on : Bool) (key : Key) (p : Packet),
    let o := (decryptWith D on p key).output
    let ps := payloadStart p
    (isScrambled (classOf p) = true →
      byteAt o 3 = byteAt p 3 &&& 0x3F#8 ∧
      (∀ t, t < ps → t ≠ 3 → byteAt o t = byteAt p t) ∧
      (∀ t, ps + 16 * roundsOf ps ≤ t → t < 188 → byteAt o t = byteAt p t)) ∧
    (isScrambled (classOf p) = false → byteAt o 3 = byteAt p 3)

/-- The cipher calls of a packet (R123): for a scrambled class exactly `rounds`, with KEY, on the input blocks in rising order; for
the pass-through classes none. -/
def Obligations.CipherCallsAreTheInputBlocksInOrder : Prop :=
  ∀ (D : Block → Key → Block) (on : Bool) (key : Key) (p : Packet),
    (isScrambled (classOf p) = true →
      (decryptWith D on p key).calls =
        (List.range (roundsOf (payloadStart p))).map (cipherCall D key p (payloadStart p))) ∧
    (isScrambled (classOf p) = false → (decryptWith D on p key).calls = [])

/-- WAS_SCR is 1 exactly for the scrambled classes, whatever rounds is (R126), and RSVD exactly for PASS_RSVD. -/
def Obligations.WasScrMarksTheScrambledClasses : Prop :=
  ∀ (D : Block → Key → Block) (on : Bool) (key : Key) (p : Packet),
    (decryptWith D on p key).flags.wasScr = isScrambled (classOf p) ∧
    ((decryptWith D on p key).flags.rsvd = true ↔ classRow (classOf p) = 1)

/-- The advisory start-code check (R124): when it warns, that it is made for scrambled classes only and raises PesMismatch exactly
then, and that switching it off changes no byte and no cipher call. -/
def Obligations.StartCodeCheckIsAdvisory : Prop :=
  ∀ (D : Block → Key → Block) (key : Key) (p : Packet),
    let r := decryptWith D true p key
    let ps := payloadStart p
    (r.flags.pesWarn = true ↔ isScrambled (classOf p) = true ∧ byteAt p 1 &&& 0x40#8 ≠ 0x00#8 ∧ 1 ≤ roundsOf ps ∧
      ¬(byteAt r.output ps = 0x00#8 ∧ byteAt r.output (ps + 1) = 0x00#8 ∧ byteAt r.output (ps + 2) = 0x01#8)) ∧
    (r.flags.pesWarn = true ↔ Event.pesMismatch ps ∈ r.events) ∧
    r.output = (decryptWith D false p key).output ∧ r.calls = (decryptWith D false p key).calls ∧
    (decryptWith D false p key).flags.pesWarn = false

/-- Pass-through (R128): the output of the three other classes is the packet, for every key. -/
def Obligations.PassThroughIsIdentity : Prop :=
  ∀ (D : Block → Key → Block) (on : Bool) (key : Key) (p : Packet),
    isScrambled (classOf p) = false → (decryptWith D on p key).output = p

/-- Flag normalization in the form that is true (R129), and its consequence for every packet a step appends, read in the sink. -/
def Obligations.OutputAdvertisesNotScrambled : Prop :=
  (∀ (D : Block → Key → Block) (on : Bool) (key : Key) (p : Packet),
    let o3 := byteAt (decryptWith D on p key).output 3 &&& 0xC0#8
    (classRow (classOf p) = 0 ∨ isScrambled (classOf p) = true → o3 = 0x00#8) ∧
    (classRow (classOf p) = 1 → o3 = 0x40#8) ∧
    (classRow (classOf p) = 4 → o3 = byteAt p 3 &&& 0xC0#8)) ∧
  (∀ s t : State, s.snk.wf = true → step s = .next t → t.snkLen ≠ s.snkLen →
    t.snkLen = s.snkLen + 188 ∧
    (t.snk.read (s.snkLen + 3) &&& 0xC0#8 = 0x00#8 ∨ t.snk.read (s.snkLen + 3) &&& 0xC0#8 = 0x40#8))

/-- Round trip (R130): a packet scrambled with any right inverse of the cipher by the same CBC construction is descrambled to the
packet it was made from. -/
def Obligations.DescramblingInvertsCbcScrambling : Prop :=
  ∀ (D E : Block → Key → Block) (on : Bool) (key : Key) (p q : Packet) (sc : Byte),
    (∀ x k, D (E x k) k = x) →
    byteAt q 0 = 0x47#8 → byteAt q 3 &&& 0xC0#8 = 0x00#8 → (sc = 0x80#8 ∨ sc = 0xC0#8) →
    byteAt p 3 = byteAt q 3 ||| sc →
    (∀ t, t < payloadStart q → t ≠ 3 → byteAt p t = byteAt q t) →
    (∀ t, payloadStart q + 16 * roundsOf (payloadStart q) ≤ t → t < 188 → byteAt p t = byteAt q t) →
    (∀ i, i < roundsOf (payloadStart q) →
      blockAt p (blockStart (payloadStart q) i) =
        E (xor16 (blockAt q (blockStart (payloadStart q) i)) (prevBlock p (payloadStart q) i)) key) →
    (decryptWith D on p key).output = q

/-- Applying the descrambler twice is applying it once (R131). -/
def Obligations.DecryptIsIdempotent : Prop :=
  ∀ (D : Block → Key → Block) (on : Bool) (key : Key) (p : Packet),
    (decryptWith D on (decryptWith D on p key).output key).output = (decryptWith D on p key).output

/-- No memory (R127): what a class leaves in O and the flags and adds to the histories depends on P and KEY alone, and it is what
`decrypt` gives. -/
def Obligations.DescramblerKeepsNoMemory : Prop :=
  (∀ s : State, exec (classOf s.p).toInstr s = .next (s.deliver (decrypt s.p s.key))) ∧
  ∀ s u : State, u.p = s.p → u.key = s.key →
    ∃ t v, exec (classOf s.p).toInstr s = .next t ∧ exec (classOf u.p).toInstr u = .next v ∧
      v.o = t.o ∧ v.wasScr = t.wasScr ∧ v.rsvd = t.rsvd ∧ v.pesWarn = t.pesWarn ∧
      ∃ calls events, t.trace = s.trace ++ calls ∧ v.trace = u.trace ++ calls ∧
        t.events = s.events ++ events ∧ v.events = u.events ++ events

/-! ### The synchronizer -/

/-- The scan accepts the least candidate, and none exactly when there is none (R143, R144). -/
def Obligations.ScanAcceptsTheLeastTriple : Prop :=
  ∀ (w : Window) (n : Nat),
    (∀ i, scan w n = some i ↔ i + 376 < n ∧ triple w i = true ∧ ∀ j, j < i → triple w j = false) ∧
    (scan w n = none ↔ ∀ i, i + 376 < n → triple w i = false) ∧
    (n ≤ 376 → scan w n = none)

/-- SYNC_TRIPLE at position `i` completes with CURSOR moved by `i` and LOCKED, and changes nothing else (R145, R164). -/
def Obligations.SyncTripleLocksAtItsPosition : Prop :=
  ∀ (i : Nat) (s : State),
    exec (.syncTriple i) s = .next { s with cursor := s.cursor + BitVec.ofNat 64 i, drvState := .locked } ∧
    (s.cursor.toNat + i < 2 ^ 64 → (s.cursor + BitVec.ofNat 64 i).toNat = s.cursor.toNat + i)

/-- STEP_SEARCH, one attempt (R163, R141, R146, R147): the window, the least candidate of the source from CURSOR on, the counted
miss at the same CURSOR, exhaustion at the tenth; and a read error, after which what W and WLEN hold is left open. -/
def Obligations.SearchStepMakesOneAttempt : Prop :=
  ∀ s : State, Inv s → s.host = [] → s.drvState = .searching →
    let wl := min 1024 (s.len.toNat - s.cursor.toNat)
    (s.nextStatus = .ok →
      ∃ t, step s = .next t ∧
        t.wlen.toNat = wl ∧ (∀ k, k < wl → byteAt t.w k = s.src.read (s.cursor.toNat + k)) ∧
        t.trace = s.trace ++ [.read s.cursor 1024 (some (s.src.readBytes s.cursor.toNat wl))] ∧
        t = { s with
          drvState := t.drvState, cursor := t.cursor, retry := t.retry, failCause := t.failCause, w := t.w, wlen := t.wlen,
          ioDraws := s.ioDraws.tail, trace := t.trace, events := t.events, freeCount := t.freeCount } ∧
        (∀ i, searchCandidate s.src s.len.toNat s.cursor.toNat i →
            (∀ j, j < i → ¬ searchCandidate s.src s.len.toNat s.cursor.toNat j) →
          t.drvState = .locked ∧ t.cursor.toNat = s.cursor.toNat + i ∧ t.retry = s.retry ∧ t.failCause = s.failCause ∧
            t.events = s.events) ∧
        ((∀ i, ¬ searchCandidate s.src s.len.toNat s.cursor.toNat i) →
          t.cursor = s.cursor ∧ t.retry.toNat = s.retry.toNat + 1 ∧
          (s.retry.toNat + 1 ≠ 10 → t.drvState = .searching ∧ t.failCause = s.failCause ∧ t.events = s.events) ∧
          (s.retry.toNat + 1 = 10 → t.drvState = .failed ∧ t.failCause = .syncExhausted ∧
            t.events = s.events ++ [.syncExhausted s.cursor]))) ∧
    (s.nextStatus = .err →
      ∃ t, step s = .next t ∧ t.drvState = .failed ∧ t.failCause = .srcIo ∧ t.trace = s.trace ++ [.read s.cursor 1024 none] ∧
        t.events = s.events ++ [.srcIoError s.cursor] ∧
        t = { s with
          drvState := t.drvState, failCause := t.failCause, w := t.w, wlen := t.wlen, ioDraws := s.ioDraws.tail,
          trace := t.trace, events := t.events, freeCount := t.freeCount })

/-- A failing search issues exactly ten identical reads and moves nothing but RETRY (R148, R152): a search with no candidate ends
in FAILED after ten attempts; one with a candidate locks at the first, at the least candidate, with one read. -/
def Obligations.SearchSucceedsAtOnceOrFailsAfterTen : Prop :=
  ∀ s : State, Inv s → s.host = [] → s.allOk → s.drvState = .searching → s.retry = 0 →
    let start := s.cursor.toNat
    let rec1 := Txn.read s.cursor 1024 (some (s.src.readBytes start (min 1024 (s.len.toNat - start))))
    (∀ i, searchCandidate s.src s.len.toNat start i → i ≤ 647 ∧ 377 ≤ s.len.toNat - start) ∧
    ((∀ i, ¬ searchCandidate s.src s.len.toNat start i) →
      ∃ t, steps 10 s = .next t ∧ t.drvState = .failed ∧ t.failCause = .syncExhausted ∧ t.retry = 10 ∧ t.cursor = s.cursor ∧
        t.bytesWritten = s.bytesWritten ∧ t.snk = s.snk ∧ t.snkLen = s.snkLen ∧
        t.trace = s.trace ++ List.replicate 10 rec1) ∧
    (∀ i, searchCandidate s.src s.len.toNat start i → (∀ j, j < i → ¬ searchCandidate s.src s.len.toNat start j) →
      ∃ t, steps 1 s = .next t ∧ t.drvState = .locked ∧ t.cursor.toNat = start + i ∧ t.retry = s.retry ∧
        t.snk = s.snk ∧ t.snkLen = s.snkLen ∧ t.trace = s.trace ++ [rec1])

/-- A lock leaves three sync bytes at stride 188 and at least 377 bytes at and after the new CURSOR, and changes no other control
register (R145, R164, R167's last sentence). -/
def Obligations.LockLeavesThreeSyncBytesAhead : Prop :=
  ∀ s t : State, Inv s → s.hostQuiet → s.drvState = .searching → step s = .next t → t.drvState = .locked →
    t.cursor.toNat + 377 ≤ t.len.toNat ∧ sourceTriple t.src t.cursor.toNat ∧ s.cursor.toNat ≤ t.cursor.toNat ∧
      t.retry = s.retry ∧ t.bytesWritten = s.bytesWritten ∧ t.len = s.len ∧ t.failCause = s.failCause ∧ t.snk = s.snk ∧
      188 ≤ t.len.toNat - t.cursor.toNat

/-- After a sync loss the search starts at the bad byte, and a re-lock moves CURSOR forward by at least one (R151, R170). -/
def Obligations.RelockMovesForward : Prop :=
  ∀ s : State, Inv s → s.host = [] → s.drvState = .locked → s.nextStatus = .ok → 188 ≤ s.len.toNat - s.cursor.toNat →
    s.src.read s.cursor.toNat ≠ 0x47#8 →
      ∃ t, step s = .next t ∧ t.drvState = .searching ∧ t.cursor = s.cursor ∧ t.retry = 0 ∧ t.snk = s.snk ∧
        ∀ u, step t = .next u → u.drvState = .locked → s.cursor.toNat < u.cursor.toNat

/-! ### The driver -/

/-- STEP_INIT with a length and without one (R162). -/
def Obligations.InitStepTakesTheLength : Prop :=
  ∀ s : State, s.host = [] → s.drvState = .init → s.started = true →
    (s.nextStatus = .ok →
      step s = .next { s with
        len := s.srcLen, cursor := 0, bytesWritten := 0, retry := 0, drvState := .searching, ioDraws := s.ioDraws.tail,
        trace := s.trace ++ [.len (some s.srcLen)] }) ∧
    (s.nextStatus = .err →
      step s = .next { s with
        drvState := .failed, failCause := .srcIo, ioDraws := s.ioDraws.tail, trace := s.trace ++ [.len none],
        events := s.events ++ [.srcIoError 0] })

/-- The end-of-stream test comes first and reads nothing (R167); right after a lock it is false. -/
def Obligations.StreamEndsWhenNoWholePacketRemains : Prop :=
  (∀ s : State, s.host = [] → s.drvState = .locked → s.len.toNat - s.cursor.toNat < 188 →
    step s = .next { s with drvState := .done }) ∧
  (∀ s t : State, Inv s → s.host = [] → s.drvState = .searching → step s = .next t → t.drvState = .locked →
    ¬ t.len.toNat - t.cursor.toNat < 188)

/-- LEAD_OK completes (R169): the packet in P is descrambled by `decrypt`, its output appended with its sideband, and both counters
advanced; if the append fails neither advances, nothing is appended and the run is FAILED. The bytes of the sink outside the 188
appended ones read as before. No step but this one writes the sink. -/
def Obligations.LeadOkDescramblesAppendsAdvances : Prop :=
  (∀ s t : State, step s = .next t → t.snk ≠ s.snk ∨ t.snkLen ≠ s.snkLen →
    s.drvState = .locked ∧ s.src.read s.cursor.toNat = 0x47#8 ∧ byteAt t.p 0 = 0x47#8) ∧
  ∀ s : State, s.snk.wf = true →
    let r := decrypt s.p s.key
    ∃ t, exec .leadOk s = .next t ∧
      t.o = r.output ∧ t.wasScr = r.flags.wasScr ∧ t.rsvd = r.flags.rsvd ∧ t.pesWarn = r.flags.pesWarn ∧
      t.trace = s.trace ++ r.calls ++ [.write s.bytesWritten r.output r.flags s.nextStatus] ∧
      (s.nextStatus = .ok →
        t.cursor = s.cursor + 188#64 ∧ t.bytesWritten = s.bytesWritten + 188#64 ∧ t.snkLen = s.snkLen + 188 ∧
        (∀ a, s.snkLen ≤ a → a < s.snkLen + 188 → t.snk.read a = byteAt r.output (a - s.snkLen)) ∧
        (∀ a, a < s.snkLen ∨ s.snkLen + 188 ≤ a → t.snk.read a = s.snk.read a) ∧
        t.drvState = s.drvState ∧ t.failCause = s.failCause ∧ t.events = s.events ++ r.events) ∧
      (s.nextStatus = .err →
        t.cursor = s.cursor ∧ t.bytesWritten = s.bytesWritten ∧ t.snkLen = s.snkLen ∧ t.snk = s.snk ∧
        t.drvState = .failed ∧ t.failCause = .snkIo ∧ t.events = s.events ++ r.events ++ [.snkIoError s.bytesWritten]) ∧
      t = { s with
        drvState := t.drvState, cursor := t.cursor, bytesWritten := t.bytesWritten, failCause := t.failCause,
        o := t.o, iv := t.iv, wasScr := t.wasScr, rsvd := t.rsvd, pesWarn := t.pesWarn, snk := t.snk, snkLen := t.snkLen,
        ioDraws := s.ioDraws.tail, trace := t.trace, events := t.events }

/-- LEAD_LOSS completes (R170, R201): RETRY 0, SEARCHING, the event SyncLoss; CURSOR, the sink and everything else unchanged. -/
def Obligations.LeadLossOnlyReentersSearching : Prop :=
  ∀ (b : Byte) (s : State),
    exec (.leadLoss b) s = .next { s with
      retry := 0, drvState := .searching, events := s.events ++ [.syncLoss s.cursor] }

/-- A step runs the instruction it decodes: the lead pattern of the packet it read, the class inside LEAD_OK, the accepted triple of
the window it read (R163, R166, R168, R169). What the step adds around `exec` is the read before it and, for a class, the append
after it. -/
def Obligations.StepRunsTheDecodedInstruction : Prop :=
  (∀ (s : State) (i : Instr), s.host = [] → s.drvState = .locked → 188 ≤ s.len.toNat - s.cursor.toNat → s.nextStatus = .ok →
    s.cursor.toNat + 188 ≤ s.srcLen.toNat → decode .lead (s.src.readBytes s.cursor.toNat 188) = .ok i →
      step s = exec i ((s.afterRead s.cursor 188).fillPacket (s.src.readBytes s.cursor.toNat 188))) ∧
  (∀ (s : State) (i : Instr), decode .tshdr s.p.toList = .ok i →
    ∃ t, exec i s = .next t ∧ exec .leadOk s = .next (appendPacket t)) ∧
  (∀ (s : State) (i : Instr) (k : Nat), s.host = [] → s.drvState = .searching → s.nextStatus = .ok →
    s.cursor.toNat ≤ s.srcLen.toNat →
    let l := s.src.readBytes s.cursor.toNat (min 1024 (s.srcLen.toNat - s.cursor.toNat))
    decode (.win3 k) l = .ok i → (∀ j, j < k → decode (.win3 j) l = .error .noTriple) →
      step s = exec i ((s.afterRead s.cursor 1024).fillWindow l))

/-- The state graph with its conditions (R161): where a core step takes DRV_STATE, and that nothing but reset takes it elsewhere. -/
def Obligations.StateGraphHasTheseTransitionsOnly : Prop :=
  (∀ s t : State, Inv s → s.host = [] → step s = .next t →
    let miss := ∀ i, ¬ searchCandidate s.src s.len.toNat s.cursor.toNat i
    (s.drvState = .init → s.started = true → t.drvState = if s.nextStatus = .ok then .searching else .failed) ∧
    (s.drvState = .init → s.started = false → t.drvState = .init) ∧
    (s.drvState = .searching → s.nextStatus = .ok → ¬ miss → t.drvState = .locked) ∧
    (s.drvState = .searching → s.nextStatus = .ok → miss →
      t.drvState = if s.retry.toNat + 1 = 10 then .failed else .searching) ∧
    (s.drvState = .searching → s.nextStatus = .err → t.drvState = .failed) ∧
    (s.drvState = .locked → s.len.toNat - s.cursor.toNat < 188 → t.drvState = .done) ∧
    (s.drvState = .locked → 188 ≤ s.len.toNat - s.cursor.toNat → s.nextStatus = .err → t.drvState = .failed) ∧
    (s.drvState = .locked → 188 ≤ s.len.toNat - s.cursor.toNat → s.nextStatus = .ok → s.src.read s.cursor.toNat ≠ 0x47#8 →
      t.drvState = .searching) ∧
    (s.drvState = .locked → 188 ≤ s.len.toNat - s.cursor.toNat → s.nextStatus = .ok → s.src.read s.cursor.toNat = 0x47#8 →
      t.drvState = if s.dropStatus.nextStatus = .ok then .locked else .failed) ∧
    (s.drvState = .done → t.drvState = .done) ∧ (s.drvState = .failed → t.drvState = .failed)) ∧
  (∀ s t : State, step s = .next t →
    t.drvState = s.drvState ∨ coreTransition s.drvState t.drvState = true ∨
      (t.drvState = .init ∧ ∃ rest, s.host = .rst :: rest))

/-- In DONE and FAILED every register keeps its value and no transaction is issued; only reset leaves them (R171). The spec enables no
core step there (R171, U13); that `step` answers next with the same state is the model's choice (log 3). -/
def Obligations.TerminalStatesKeepEverything : Prop :=
  (∀ s : State, s.terminal = true → s.host = [] → step s = .next s) ∧
  (∀ s t : State, s.terminal = true → step s = .next t → t.drvState ≠ s.drvState → ∃ rest, s.host = .rst :: rest)

/-! ### Runs -/

/-- The output relation (R71): the run's part of the sink is `decrypt` of the packets consumed, in rising source order, and nothing
before it is touched. -/
def Obligations.SinkHoldsTheDecryptedPacketsInOrder : Prop :=
  ∀ (k : Nat) (s t : State), Inv s → s.host = [] → steps k s = .next t →
    let offs := consumedOffsets k s
    offs.Pairwise (fun a b => a < b) ∧
    t.snkLen = s.snkLen + 188 * offs.length ∧
    t.snk.readBytes s.snkLen (188 * offs.length) =
      offs.flatMap (fun a => (decrypt (packetAt s.src a) s.key).output.toList) ∧
    t.snk.readBytes 0 s.snkLen = s.snk.readBytes 0 s.snkLen ∧
    (s.started = true → t.bytesWritten.toNat = s.bytesWritten.toNat + 188 * offs.length) ∧
    188 * offs.length ≤ s.srcLen.toNat

/-- Every run ends, within the bound of R179, whatever the statuses. -/
def Obligations.EveryRunEndsWithinTheStepBound : Prop :=
  ∀ s : State, Inv s → s.host = [] → s.drvState = .init → s.started = true →
    ∃ t, steps (12 + s.srcLen.toNat / 188 + 11 * (s.srcLen.toNat / 376)) s = .next t ∧ t.terminal = true

/-- Short streams (R175): a source of at most 376 bytes ends in FAILED with SYNC_EXHAUSTED, nothing written, after one length query
and ten window reads, whatever its bytes; a source of 377 bytes with sync bytes at 0, 188 and 376 ends in DONE with two packets. -/
def Obligations.ShortStreamsFailAndTheShortestLockEnds : Prop :=
  (∀ s : State, Inv s → s.host = [] → s.allOk → s.drvState = .init → s.started = true → s.srcLen.toNat ≤ 376 →
    ∃ t, steps 11 s = .next t ∧ t.drvState = .failed ∧ t.failCause = .syncExhausted ∧ t.bytesWritten = 0 ∧ t.snkLen = s.snkLen ∧
      t.trace = s.trace ++ .len (some s.srcLen) ::
        List.replicate 10 (.read 0 1024 (some (s.src.readBytes 0 s.srcLen.toNat)))) ∧
  (∀ s : State, Inv s → s.host = [] → s.allOk → s.drvState = .init → s.started = true → s.srcLen.toNat = 377 →
    sourceTriple s.src 0 →
    ∃ t, steps 5 s = .next t ∧ t.drvState = .done ∧ t.failCause = .noCause ∧ t.bytesWritten.toNat = 376 ∧
      t.snkLen = s.snkLen + 376 ∧ t.cursor.toNat = 376)

/-- After every lock two packets are consumed, and a third if it is whole, provided no I/O error (R178). -/
def Obligations.EveryLockConsumesTwoPacketsOrThree : Prop :=
  ∀ s t : State, Inv s → s.host = [] → s.allOk → s.drvState = .searching → step s = .next t → t.drvState = .locked →
    (∃ u, steps 2 t = .next u ∧ u.drvState = .locked ∧ u.cursor.toNat = t.cursor.toNat + 376 ∧
      u.bytesWritten.toNat = t.bytesWritten.toNat + 376 ∧ u.snkLen = t.snkLen + 376) ∧
    (564 ≤ t.len.toNat - t.cursor.toNat →
      ∃ u, steps 3 t = .next u ∧ u.drvState = .locked ∧ u.cursor.toNat = t.cursor.toNat + 564 ∧
        u.bytesWritten.toNat = t.bytesWritten.toNat + 564)

/-! ### Invariants and whole-machine rules -/

/-- Every step keeps the invariant, from every state that meets it: R44's clauses (a) to (d), (f) and (g), R26, LEN the true length while
it is read (R24, R52, R226), INIT's zeros (R42), STARTED outside INIT (R29), WLEN at most 1024 (R34). Some of it is the model's choice:
WLEN <= 1024 holds after a reset step by the values of log 1 and log 20 and after a failed window read by log 8; the canonical form of the
two streams is log 9's; the sink offset that (g) counts from, `runBase`, is log 19's. -/
def Obligations.EveryStepKeepsTheInvariant : Prop :=
  ∀ s t : State, Inv s → step s = .next t → Inv t

/-- The invariant holds right after reset. Its clauses on LEN and WLEN hold there by the model's own reset values (log 1), those on
the streams by the model's own empty environment (log 2). -/
def Obligations.InvariantHoldsAtReset : Prop := Inv State.reset

/-- No state that meets the invariant stops: every step is a next step, unless the host attaches a source (R26, R53, R149; log 11).
Where no core step is enabled (INIT before start, DONE, FAILED) the next step that answers is the model's choice (log 3), and so is what
an act of the host costs (log 4). -/
def Obligations.NoStateOfTheInvariantStops : Prop :=
  ∀ s : State, Inv s → (∀ l rest, s.host ≠ .attach l :: rest) → Safe s

/-- The cursor only moves forward and stays within the stream (R174, R44 (e)): a step other than reset leaves CURSOR, or adds the
accepted position, or adds 188. -/
def Obligations.CursorOnlyMovesForward : Prop :=
  ∀ s t : State, Inv s → step s = .next t → (∀ rest, s.host ≠ .rst :: rest) →
    s.cursor.toNat ≤ t.cursor.toNat ∧ t.cursor.toNat ≤ t.len.toNat ∧
    (t.cursor = s.cursor ∨ (s.drvState = .searching ∧ t.drvState = .locked) ∨
      (s.drvState = .locked ∧ t.cursor.toNat = s.cursor.toNat + 188))

/-- Entry into FAILED (R202, R197, R198): the cause names the event, the event is the last one recorded, the sink, CURSOR,
BYTES_WRITTEN, LEN, KEY and STARTED keep their values, and only the exceptions R202 names may change, and the one buffer that a failed
read was to fill (R197): W on a window read, P on a packet read, neither on a length query. What WLEN holds after a failed window read
is left open. -/
def Obligations.FailureChangesOnlyWhatItNames : Prop :=
  ∀ s t : State, step s = .next t → s.drvState ≠ .failed → t.drvState = .failed →
    (t.failCause = .syncExhausted ∧ t.retry = 10 ∧
      t = { s with
        drvState := .failed, failCause := .syncExhausted, retry := 10, w := t.w, wlen := t.wlen,
        events := s.events ++ [.syncExhausted s.cursor],
        host := t.host, ioDraws := t.ioDraws, trace := t.trace, freeCount := t.freeCount }) ∨
    (t.failCause = .srcIo ∧
      t = { s with
        drvState := .failed, failCause := .srcIo,
        p := if s.drvState = .locked then t.p else s.p,
        w := if s.drvState = .searching then t.w else s.w,
        wlen := if s.drvState = .searching then t.wlen else s.wlen,
        events := s.events ++ [.srcIoError (if s.drvState = .init then 0 else s.cursor)],
        host := t.host, ioDraws := t.ioDraws, trace := t.trace, freeCount := t.freeCount }) ∨
    (t.failCause = .snkIo ∧
      (∃ l, t.events = s.events ++ l ++ [.snkIoError s.bytesWritten]) ∧
      t = { s with
        drvState := .failed, failCause := .snkIo, p := t.p, o := t.o, iv := t.iv, wasScr := t.wasScr, rsvd := t.rsvd,
        pesWarn := t.pesWarn, events := t.events, host := t.host, ioDraws := t.ioDraws, trace := t.trace })

/-- A step records at most one fatal or stream-level event, last, and at most one advisory event before it, never NotSync (R200,
R99). -/
def Obligations.AStepEndsWithAtMostOneEvent : Prop :=
  ∀ s t : State, step s = .next t →
    ∃ advisory ending, t.events = s.events ++ advisory ++ ending ∧ advisory.length ≤ 1 ∧ ending.length ≤ 1 ∧
      (∀ e ∈ ending, e.endsStep = true) ∧ (∀ e ∈ advisory, e.endsStep = false ∧ ∀ b, e ≠ .notSync b) ∧
      (advisory ≠ [] → t.trace.length ≠ s.trace.length ∧ ∀ c, Event.syncLoss c ∉ ending)

/-- No behaviour depends on a register that holds no value (R43, R45): two states that differ only in such registers step alike and
go on differing only there. -/
def Obligations.UnwrittenRegistersDecideNothing : Prop :=
  ∀ s t : State, SameButUnwritten s t → OutcomesAgree SameButUnwritten (step s) (step t)

/-- The key decides no control state and no source access (R30, R41): two states that differ only in the key, and in what the
descrambler computed from it, step alike and go on differing only there. Every length query and every read they record is the same. -/
def Obligations.KeyDecidesNoControlState : Prop :=
  ∀ s t : State, SameButKey s t → OutcomesAgree SameButKey (step s) (step t)

/-- The source and its length do not change during a run (R68), and the sink only grows. -/
def Obligations.SourceIsFixedAndSinkOnlyGrows : Prop :=
  ∀ s t : State, Inv s → step s = .next t →
    (runGoesOn s = true → t.src = s.src ∧ t.srcLen = s.srcLen) ∧
    (t.snkLen = s.snkLen ∧ t.snk = s.snk ∨ t.snkLen = s.snkLen + 188) ∧
    (∀ a, a < s.snkLen → t.snk.read a = s.snk.read a)

/-- KEY does not change between the start step and the terminal state (R233), whatever the host does but reset. -/
def Obligations.KeyIsStableDuringARun : Prop :=
  ∀ s t : State, runGoesOn s = true → step s = .next t → (∀ rest, s.host ≠ .rst :: rest) →
    t.key = s.key ∧ t.started = s.started

/-! ### Reset, start, ports, outputs, memories -/

/-- What reset leaves in the registers the spec gives a value (R42). -/
def Obligations.ResetLeavesTheStatedValues : Prop :=
  State.reset.drvState = .init ∧ State.reset.started = false ∧ State.reset.cursor = 0 ∧ State.reset.bytesWritten = 0 ∧
  State.reset.retry = 0 ∧ State.reset.failCause = .noCause ∧
  State.reset.outSyncLocked = false ∧ State.reset.outDone = false ∧ State.reset.outFailed = false ∧
  State.reset.outExitStatus = 0

/-- The reset step (R220, R223): enabled in every state; the six control registers, no transaction, the source and the sink
untouched. -/
def Obligations.ResetStepIsEnabledEverywhere : Prop :=
  ∀ (s : State) (rest : List HostAct), s.host = .rst :: rest →
    ∃ t, step s = .next t ∧ t.drvState = .init ∧ t.started = false ∧ t.cursor = 0 ∧ t.bytesWritten = 0 ∧ t.retry = 0 ∧
      t.failCause = .noCause ∧ t.trace = s.trace ∧ t.events = s.events ∧ t.src = s.src ∧ t.srcLen = s.srcLen ∧
      t.snk = s.snk ∧ t.snkLen = s.snkLen ∧ t.host = rest ∧ t.ioDraws = s.ioDraws

/-- The start step (R222): it latches the key where its guard holds and is ignored elsewhere. The statement leaves open what becomes of
the field `runBase`, the model's own record of where this run's output begins (log 19). -/
def Obligations.StartLatchesTheKeyOnce : Prop :=
  ∀ (s : State) (k : Key) (rest : List HostAct), s.host = .start k :: rest →
    (s.drvState = .init → s.started = false →
      ∃ t, step s = .next t ∧ t = { s with host := rest, key := k, started := true, runBase := t.runBase }) ∧
    (¬(s.drvState = .init ∧ s.started = false) → step s = .next { s with host := rest })

/-- A source is attached between runs and never during one (R224 (2), R68). What a host act that breaks the duty is answered with is
the model's choice (log 10). -/
def Obligations.SourceIsAttachedBetweenRunsOnly : Prop :=
  ∀ (s : State) (l : List Byte) (rest : List HostAct), s.host = .attach l :: rest →
    (runGoesOn s = false → l.length < 2 ^ 64 →
      ∃ t, step s = .next t ∧ t.srcLen.toNat = l.length ∧ t.src.wf = true ∧
        (∀ a, a < l.length → t.src.read a = l.getD a 0) ∧
        t = { s with host := rest, src := t.src, srcLen := t.srcLen }) ∧
    (runGoesOn s = true → step s = .refused .sourceChangedDuringRun)

/-- `MemRead` (R53): an offset within the source is answered with the bytes that exist, or with err; the state changes only in the
draws and the trace. The two shapes of read are the only ones a step issues, and a packet read that is answered brings 188 bytes. -/
def Obligations.ReadAnswersTheBytesThatExist : Prop :=
  (∀ s t : State, step s = .next t → ∀ (a : Offset) (n : Nat) (b : Option (List Byte)),
    .read a n b ∈ t.trace.drop s.trace.length →
      a = s.cursor ∧ (n = 1024 ∧ s.drvState = .searching ∨
        n = 188 ∧ s.drvState = .locked ∧ 188 ≤ s.len.toNat - s.cursor.toNat ∧ ∀ l, b = some l → l.length = 188)) ∧
  ∀ (s : State) (a : Offset) (n : Nat), a.toNat ≤ s.srcLen.toNat →
    (s.nextStatus = .ok →
      ∃ l, s.memRead a n = .next (some l, { s with
          ioDraws := s.ioDraws.tail, trace := s.trace ++ [.read a n (some l)] }) ∧
        l.length = min n (s.srcLen.toNat - a.toNat) ∧ ∀ t, t < l.length → l.getD t 0 = s.src.read (a.toNat + t)) ∧
    (s.nextStatus = .err →
      s.memRead a n = .next (none, { s with ioDraws := s.ioDraws.tail, trace := s.trace ++ [.read a n none] }))

/-- The outputs (R210, R22, R33): EXIT_STATUS is 0 in DONE and 1, 2 or 3 in FAILED by its cause; SYNC_LOCKED, DONE and FAILED are
views of DRV_STATE. -/
def Obligations.OutputsAreViewsOfTheControlState : Prop :=
  ∀ s : State, Inv s →
    (s.outDone = true → s.outExitStatus = 0) ∧
    (s.outFailed = true → s.outExitStatus = 1 ∨ s.outExitStatus = 2 ∨ s.outExitStatus = 3) ∧
    (s.outExitStatus = 0 ↔ s.failCause = .noCause) ∧ (s.outExitStatus = 1 ↔ s.failCause = .syncExhausted) ∧
    (s.outExitStatus = 2 ↔ s.failCause = .srcIo) ∧ (s.outExitStatus = 3 ↔ s.failCause = .snkIo) ∧
    (s.outSyncLocked = true ↔ s.drvState = .locked) ∧ (s.outDone = true ↔ s.drvState = .done) ∧
    (s.outFailed = true ↔ s.drvState = .failed) ∧
    (s.outDrvState = 0 ↔ s.drvState = .init) ∧ (s.outDrvState = 1 ↔ s.drvState = .searching) ∧
    (s.outDrvState = 2 ↔ s.drvState = .locked) ∧ (s.outDrvState = 3 ↔ s.drvState = .done) ∧
    (s.outDrvState = 4 ↔ s.drvState = .failed)

/-- Two canonical memories that read alike are the same data (log 9). -/
def Obligations.CanonicalMemoriesThatReadAlikeAreEqual : Prop :=
  ∀ m m' : Memory, m.wf = true → m'.wf = true → (∀ a, m.read a = m'.read a) → m = m'
end

