-- ==== Sys2Proof/Laws/Bytes.lean ====
section
/-! SUPPORT. Fixed-length byte arrays: what each constructor holds at each index, and equality by index. -/

namespace Sys2Proof

@[simp] theorem toList_length {n : Nat} (a : Bytes n) : a.toList.length = n := by simp

theorem byteAt_eq_getElem {n : Nat} (a : Bytes n) {t : Nat} (h : t < n) : byteAt a t = a[t] := by
  simp [byteAt, List.getD, h]

theorem byteAt_past {n : Nat} (a : Bytes n) {t : Nat} (h : n ≤ t) : byteAt a t = 0 := by
  simp [byteAt, List.getD, h]

/-- Two arrays with the same bytes are equal. -/
theorem bytes_ext {n : Nat} {a b : Bytes n} (h : ∀ t, t < n → byteAt a t = byteAt b t) : a = b := by
  apply Vector.ext
  intro t ht
  simpa [byteAt_eq_getElem _ ht] using h t ht

theorem byteAt_tabulate {n : Nat} (f : Nat → Byte) {t : Nat} (h : t < n) : byteAt (tabulate n f) t = f t := by
  simp [tabulate, byteAt, List.getD, h]

theorem byteAt_constBytes {n : Nat} (v : Byte) {t : Nat} (h : t < n) : byteAt (constBytes n v) t = v :=
  byteAt_tabulate _ h

theorem byteAt_ofList {n : Nat} (l : List Byte) {t : Nat} (h : t < n) : byteAt (ofList n l) t = l.getD t 0 :=
  byteAt_tabulate _ h

theorem ofList_toList {n : Nat} (a : Bytes n) : ofList n a.toList = a :=
  bytes_ext fun _ ht => byteAt_ofList _ ht

theorem toList_ofList {n : Nat} (l : List Byte) (h : l.length = n) : (ofList n l).toList = l := by
  subst h
  simp only [ofList, tabulate]
  apply List.ext_getElem
  · simp
  · intro i _ h
    simp [h]

/-- An element of a list that is listed by its index. -/
theorem getD_map_range (f : Nat → Byte) {n t : Nat} (h : t < n) : ((List.range n).map f).getD t 0 = f t := by
  simp [List.getD, h]

@[simp] theorem byteAt_zero16 (t : Nat) : byteAt zero16 t = 0 := by
  by_cases h : t < Config.BLK
  · exact byteAt_constBytes 0 h
  · exact byteAt_past _ (Nat.le_of_not_lt h)

namespace Machine

/-- Past the end of a packet (log 23). -/
theorem byteAt_packet_past (p : Packet) {t : Nat} (h : 188 ≤ t) : byteAt p t = 0 := byteAt_past p h

theorem byteAt_blockAt (p : Packet) (a : Nat) {j : Nat} (h : j < 16) : byteAt (blockAt p a) j = byteAt p (a + j) :=
  byteAt_tabulate _ h

theorem byteAt_xor16 (a b : Block) {j : Nat} (h : j < 16) : byteAt (xor16 a b) j = byteAt a j ^^^ byteAt b j :=
  byteAt_tabulate _ h

/-- Inside the replaced block. -/
theorem byteAt_putBlock_inside (o : Packet) (a : Nat) (b : Block) {t : Nat} (h : t < 188) (h1 : a ≤ t) (h2 : t < a + 16) :
    byteAt (putBlock o a b) t = byteAt b (t - a) := by
  simp [putBlock, byteAt_tabulate _ h, h1, h2]

/-- Outside the replaced block. -/
theorem byteAt_putBlock_outside (o : Packet) (a : Nat) (b : Block) {t : Nat} (h : t < 188) (h1 : t < a ∨ a + 16 ≤ t) :
    byteAt (putBlock o a b) t = byteAt o t := by
  rw [putBlock, byteAt_tabulate _ h, if_neg]
  simp only [Config.BLK]
  omega

theorem byteAt_putByte (o : Packet) (a : Nat) (b : Byte) {t : Nat} (h : t < 188) :
    byteAt (putByte o a b) t = if t = a then b else byteAt o t :=
  byteAt_tabulate _ h

/-- `& 0x3F` (40_descrambler.md R119). -/
theorem clearSc_eq (b : Byte) : clearSc b = b &&& 0x3F#8 := rfl

end Machine

end Sys2Proof
end

