-- ==== Sys2Proof/Laws/State.lean ====
section
/-! SUPPORT. What each register write leaves in each field: one lemma per field per write, by rfl. -/

namespace Sys2Proof.Machine.State

/-! `setDrvState` -/
section
variable (s : State) (d : DrvState)
@[simp] theorem setDrvState_drvState : (s.setDrvState d).drvState = d := rfl
@[simp] theorem setDrvState_started : (s.setDrvState d).started = s.started := rfl
@[simp] theorem setDrvState_cursor : (s.setDrvState d).cursor = s.cursor := rfl
@[simp] theorem setDrvState_len : (s.setDrvState d).len = s.len := rfl
@[simp] theorem setDrvState_bytesWritten : (s.setDrvState d).bytesWritten = s.bytesWritten := rfl
@[simp] theorem setDrvState_retry : (s.setDrvState d).retry = s.retry := rfl
@[simp] theorem setDrvState_failCause : (s.setDrvState d).failCause = s.failCause := rfl
@[simp] theorem setDrvState_key : (s.setDrvState d).key = s.key := rfl
@[simp] theorem setDrvState_p : (s.setDrvState d).p = s.p := rfl
@[simp] theorem setDrvState_o : (s.setDrvState d).o = s.o := rfl
@[simp] theorem setDrvState_iv : (s.setDrvState d).iv = s.iv := rfl
@[simp] theorem setDrvState_w : (s.setDrvState d).w = s.w := rfl
@[simp] theorem setDrvState_wlen : (s.setDrvState d).wlen = s.wlen := rfl
@[simp] theorem setDrvState_wasScr : (s.setDrvState d).wasScr = s.wasScr := rfl
@[simp] theorem setDrvState_rsvd : (s.setDrvState d).rsvd = s.rsvd := rfl
@[simp] theorem setDrvState_pesWarn : (s.setDrvState d).pesWarn = s.pesWarn := rfl
@[simp] theorem setDrvState_src : (s.setDrvState d).src = s.src := rfl
@[simp] theorem setDrvState_srcLen : (s.setDrvState d).srcLen = s.srcLen := rfl
@[simp] theorem setDrvState_snk : (s.setDrvState d).snk = s.snk := rfl
@[simp] theorem setDrvState_snkLen : (s.setDrvState d).snkLen = s.snkLen := rfl
@[simp] theorem setDrvState_runBase : (s.setDrvState d).runBase = s.runBase := rfl
@[simp] theorem setDrvState_host : (s.setDrvState d).host = s.host := rfl
@[simp] theorem setDrvState_ioDraws : (s.setDrvState d).ioDraws = s.ioDraws := rfl
@[simp] theorem setDrvState_ioRest : (s.setDrvState d).ioRest = s.ioRest := rfl
@[simp] theorem setDrvState_trace : (s.setDrvState d).trace = s.trace := rfl
@[simp] theorem setDrvState_events : (s.setDrvState d).events = s.events := rfl
@[simp] theorem setDrvState_freeCount : (s.setDrvState d).freeCount = s.freeCount := rfl
end

/-! `setCursor` -/
section
variable (s : State) (c : Offset)
@[simp] theorem setCursor_drvState : (s.setCursor c).drvState = s.drvState := rfl
@[simp] theorem setCursor_started : (s.setCursor c).started = s.started := rfl
@[simp] theorem setCursor_cursor : (s.setCursor c).cursor = c := rfl
@[simp] theorem setCursor_len : (s.setCursor c).len = s.len := rfl
@[simp] theorem setCursor_bytesWritten : (s.setCursor c).bytesWritten = s.bytesWritten := rfl
@[simp] theorem setCursor_retry : (s.setCursor c).retry = s.retry := rfl
@[simp] theorem setCursor_failCause : (s.setCursor c).failCause = s.failCause := rfl
@[simp] theorem setCursor_key : (s.setCursor c).key = s.key := rfl
@[simp] theorem setCursor_p : (s.setCursor c).p = s.p := rfl
@[simp] theorem setCursor_o : (s.setCursor c).o = s.o := rfl
@[simp] theorem setCursor_iv : (s.setCursor c).iv = s.iv := rfl
@[simp] theorem setCursor_w : (s.setCursor c).w = s.w := rfl
@[simp] theorem setCursor_wlen : (s.setCursor c).wlen = s.wlen := rfl
@[simp] theorem setCursor_wasScr : (s.setCursor c).wasScr = s.wasScr := rfl
@[simp] theorem setCursor_rsvd : (s.setCursor c).rsvd = s.rsvd := rfl
@[simp] theorem setCursor_pesWarn : (s.setCursor c).pesWarn = s.pesWarn := rfl
@[simp] theorem setCursor_src : (s.setCursor c).src = s.src := rfl
@[simp] theorem setCursor_srcLen : (s.setCursor c).srcLen = s.srcLen := rfl
@[simp] theorem setCursor_snk : (s.setCursor c).snk = s.snk := rfl
@[simp] theorem setCursor_snkLen : (s.setCursor c).snkLen = s.snkLen := rfl
@[simp] theorem setCursor_runBase : (s.setCursor c).runBase = s.runBase := rfl
@[simp] theorem setCursor_host : (s.setCursor c).host = s.host := rfl
@[simp] theorem setCursor_ioDraws : (s.setCursor c).ioDraws = s.ioDraws := rfl
@[simp] theorem setCursor_ioRest : (s.setCursor c).ioRest = s.ioRest := rfl
@[simp] theorem setCursor_trace : (s.setCursor c).trace = s.trace := rfl
@[simp] theorem setCursor_events : (s.setCursor c).events = s.events := rfl
@[simp] theorem setCursor_freeCount : (s.setCursor c).freeCount = s.freeCount := rfl
end

/-! `setLen` -/
section
variable (s : State) (n : Offset)
@[simp] theorem setLen_drvState : (s.setLen n).drvState = s.drvState := rfl
@[simp] theorem setLen_started : (s.setLen n).started = s.started := rfl
@[simp] theorem setLen_cursor : (s.setLen n).cursor = s.cursor := rfl
@[simp] theorem setLen_len : (s.setLen n).len = n := rfl
@[simp] theorem setLen_bytesWritten : (s.setLen n).bytesWritten = s.bytesWritten := rfl
@[simp] theorem setLen_retry : (s.setLen n).retry = s.retry := rfl
@[simp] theorem setLen_failCause : (s.setLen n).failCause = s.failCause := rfl
@[simp] theorem setLen_key : (s.setLen n).key = s.key := rfl
@[simp] theorem setLen_p : (s.setLen n).p = s.p := rfl
@[simp] theorem setLen_o : (s.setLen n).o = s.o := rfl
@[simp] theorem setLen_iv : (s.setLen n).iv = s.iv := rfl
@[simp] theorem setLen_w : (s.setLen n).w = s.w := rfl
@[simp] theorem setLen_wlen : (s.setLen n).wlen = s.wlen := rfl
@[simp] theorem setLen_wasScr : (s.setLen n).wasScr = s.wasScr := rfl
@[simp] theorem setLen_rsvd : (s.setLen n).rsvd = s.rsvd := rfl
@[simp] theorem setLen_pesWarn : (s.setLen n).pesWarn = s.pesWarn := rfl
@[simp] theorem setLen_src : (s.setLen n).src = s.src := rfl
@[simp] theorem setLen_srcLen : (s.setLen n).srcLen = s.srcLen := rfl
@[simp] theorem setLen_snk : (s.setLen n).snk = s.snk := rfl
@[simp] theorem setLen_snkLen : (s.setLen n).snkLen = s.snkLen := rfl
@[simp] theorem setLen_runBase : (s.setLen n).runBase = s.runBase := rfl
@[simp] theorem setLen_host : (s.setLen n).host = s.host := rfl
@[simp] theorem setLen_ioDraws : (s.setLen n).ioDraws = s.ioDraws := rfl
@[simp] theorem setLen_ioRest : (s.setLen n).ioRest = s.ioRest := rfl
@[simp] theorem setLen_trace : (s.setLen n).trace = s.trace := rfl
@[simp] theorem setLen_events : (s.setLen n).events = s.events := rfl
@[simp] theorem setLen_freeCount : (s.setLen n).freeCount = s.freeCount := rfl
end

/-! `setBytesWritten` -/
section
variable (s : State) (n : Offset)
@[simp] theorem setBytesWritten_drvState : (s.setBytesWritten n).drvState = s.drvState := rfl
@[simp] theorem setBytesWritten_started : (s.setBytesWritten n).started = s.started := rfl
@[simp] theorem setBytesWritten_cursor : (s.setBytesWritten n).cursor = s.cursor := rfl
@[simp] theorem setBytesWritten_len : (s.setBytesWritten n).len = s.len := rfl
@[simp] theorem setBytesWritten_bytesWritten : (s.setBytesWritten n).bytesWritten = n := rfl
@[simp] theorem setBytesWritten_retry : (s.setBytesWritten n).retry = s.retry := rfl
@[simp] theorem setBytesWritten_failCause : (s.setBytesWritten n).failCause = s.failCause := rfl
@[simp] theorem setBytesWritten_key : (s.setBytesWritten n).key = s.key := rfl
@[simp] theorem setBytesWritten_p : (s.setBytesWritten n).p = s.p := rfl
@[simp] theorem setBytesWritten_o : (s.setBytesWritten n).o = s.o := rfl
@[simp] theorem setBytesWritten_iv : (s.setBytesWritten n).iv = s.iv := rfl
@[simp] theorem setBytesWritten_w : (s.setBytesWritten n).w = s.w := rfl
@[simp] theorem setBytesWritten_wlen : (s.setBytesWritten n).wlen = s.wlen := rfl
@[simp] theorem setBytesWritten_wasScr : (s.setBytesWritten n).wasScr = s.wasScr := rfl
@[simp] theorem setBytesWritten_rsvd : (s.setBytesWritten n).rsvd = s.rsvd := rfl
@[simp] theorem setBytesWritten_pesWarn : (s.setBytesWritten n).pesWarn = s.pesWarn := rfl
@[simp] theorem setBytesWritten_src : (s.setBytesWritten n).src = s.src := rfl
@[simp] theorem setBytesWritten_srcLen : (s.setBytesWritten n).srcLen = s.srcLen := rfl
@[simp] theorem setBytesWritten_snk : (s.setBytesWritten n).snk = s.snk := rfl
@[simp] theorem setBytesWritten_snkLen : (s.setBytesWritten n).snkLen = s.snkLen := rfl
@[simp] theorem setBytesWritten_runBase : (s.setBytesWritten n).runBase = s.runBase := rfl
@[simp] theorem setBytesWritten_host : (s.setBytesWritten n).host = s.host := rfl
@[simp] theorem setBytesWritten_ioDraws : (s.setBytesWritten n).ioDraws = s.ioDraws := rfl
@[simp] theorem setBytesWritten_ioRest : (s.setBytesWritten n).ioRest = s.ioRest := rfl
@[simp] theorem setBytesWritten_trace : (s.setBytesWritten n).trace = s.trace := rfl
@[simp] theorem setBytesWritten_events : (s.setBytesWritten n).events = s.events := rfl
@[simp] theorem setBytesWritten_freeCount : (s.setBytesWritten n).freeCount = s.freeCount := rfl
end

/-! `setRetry` -/
section
variable (s : State) (r : BitVec 4)
@[simp] theorem setRetry_drvState : (s.setRetry r).drvState = s.drvState := rfl
@[simp] theorem setRetry_started : (s.setRetry r).started = s.started := rfl
@[simp] theorem setRetry_cursor : (s.setRetry r).cursor = s.cursor := rfl
@[simp] theorem setRetry_len : (s.setRetry r).len = s.len := rfl
@[simp] theorem setRetry_bytesWritten : (s.setRetry r).bytesWritten = s.bytesWritten := rfl
@[simp] theorem setRetry_retry : (s.setRetry r).retry = r := rfl
@[simp] theorem setRetry_failCause : (s.setRetry r).failCause = s.failCause := rfl
@[simp] theorem setRetry_key : (s.setRetry r).key = s.key := rfl
@[simp] theorem setRetry_p : (s.setRetry r).p = s.p := rfl
@[simp] theorem setRetry_o : (s.setRetry r).o = s.o := rfl
@[simp] theorem setRetry_iv : (s.setRetry r).iv = s.iv := rfl
@[simp] theorem setRetry_w : (s.setRetry r).w = s.w := rfl
@[simp] theorem setRetry_wlen : (s.setRetry r).wlen = s.wlen := rfl
@[simp] theorem setRetry_wasScr : (s.setRetry r).wasScr = s.wasScr := rfl
@[simp] theorem setRetry_rsvd : (s.setRetry r).rsvd = s.rsvd := rfl
@[simp] theorem setRetry_pesWarn : (s.setRetry r).pesWarn = s.pesWarn := rfl
@[simp] theorem setRetry_src : (s.setRetry r).src = s.src := rfl
@[simp] theorem setRetry_srcLen : (s.setRetry r).srcLen = s.srcLen := rfl
@[simp] theorem setRetry_snk : (s.setRetry r).snk = s.snk := rfl
@[simp] theorem setRetry_snkLen : (s.setRetry r).snkLen = s.snkLen := rfl
@[simp] theorem setRetry_runBase : (s.setRetry r).runBase = s.runBase := rfl
@[simp] theorem setRetry_host : (s.setRetry r).host = s.host := rfl
@[simp] theorem setRetry_ioDraws : (s.setRetry r).ioDraws = s.ioDraws := rfl
@[simp] theorem setRetry_ioRest : (s.setRetry r).ioRest = s.ioRest := rfl
@[simp] theorem setRetry_trace : (s.setRetry r).trace = s.trace := rfl
@[simp] theorem setRetry_events : (s.setRetry r).events = s.events := rfl
@[simp] theorem setRetry_freeCount : (s.setRetry r).freeCount = s.freeCount := rfl
end

/-! `setFailCause` -/
section
variable (s : State) (c : FailCause)
@[simp] theorem setFailCause_drvState : (s.setFailCause c).drvState = s.drvState := rfl
@[simp] theorem setFailCause_started : (s.setFailCause c).started = s.started := rfl
@[simp] theorem setFailCause_cursor : (s.setFailCause c).cursor = s.cursor := rfl
@[simp] theorem setFailCause_len : (s.setFailCause c).len = s.len := rfl
@[simp] theorem setFailCause_bytesWritten : (s.setFailCause c).bytesWritten = s.bytesWritten := rfl
@[simp] theorem setFailCause_retry : (s.setFailCause c).retry = s.retry := rfl
@[simp] theorem setFailCause_failCause : (s.setFailCause c).failCause = c := rfl
@[simp] theorem setFailCause_key : (s.setFailCause c).key = s.key := rfl
@[simp] theorem setFailCause_p : (s.setFailCause c).p = s.p := rfl
@[simp] theorem setFailCause_o : (s.setFailCause c).o = s.o := rfl
@[simp] theorem setFailCause_iv : (s.setFailCause c).iv = s.iv := rfl
@[simp] theorem setFailCause_w : (s.setFailCause c).w = s.w := rfl
@[simp] theorem setFailCause_wlen : (s.setFailCause c).wlen = s.wlen := rfl
@[simp] theorem setFailCause_wasScr : (s.setFailCause c).wasScr = s.wasScr := rfl
@[simp] theorem setFailCause_rsvd : (s.setFailCause c).rsvd = s.rsvd := rfl
@[simp] theorem setFailCause_pesWarn : (s.setFailCause c).pesWarn = s.pesWarn := rfl
@[simp] theorem setFailCause_src : (s.setFailCause c).src = s.src := rfl
@[simp] theorem setFailCause_srcLen : (s.setFailCause c).srcLen = s.srcLen := rfl
@[simp] theorem setFailCause_snk : (s.setFailCause c).snk = s.snk := rfl
@[simp] theorem setFailCause_snkLen : (s.setFailCause c).snkLen = s.snkLen := rfl
@[simp] theorem setFailCause_runBase : (s.setFailCause c).runBase = s.runBase := rfl
@[simp] theorem setFailCause_host : (s.setFailCause c).host = s.host := rfl
@[simp] theorem setFailCause_ioDraws : (s.setFailCause c).ioDraws = s.ioDraws := rfl
@[simp] theorem setFailCause_ioRest : (s.setFailCause c).ioRest = s.ioRest := rfl
@[simp] theorem setFailCause_trace : (s.setFailCause c).trace = s.trace := rfl
@[simp] theorem setFailCause_events : (s.setFailCause c).events = s.events := rfl
@[simp] theorem setFailCause_freeCount : (s.setFailCause c).freeCount = s.freeCount := rfl
end

/-! `setStarted` -/
section
variable (s : State) (b : Bool)
@[simp] theorem setStarted_drvState : (s.setStarted b).drvState = s.drvState := rfl
@[simp] theorem setStarted_started : (s.setStarted b).started = b := rfl
@[simp] theorem setStarted_cursor : (s.setStarted b).cursor = s.cursor := rfl
@[simp] theorem setStarted_len : (s.setStarted b).len = s.len := rfl
@[simp] theorem setStarted_bytesWritten : (s.setStarted b).bytesWritten = s.bytesWritten := rfl
@[simp] theorem setStarted_retry : (s.setStarted b).retry = s.retry := rfl
@[simp] theorem setStarted_failCause : (s.setStarted b).failCause = s.failCause := rfl
@[simp] theorem setStarted_key : (s.setStarted b).key = s.key := rfl
@[simp] theorem setStarted_p : (s.setStarted b).p = s.p := rfl
@[simp] theorem setStarted_o : (s.setStarted b).o = s.o := rfl
@[simp] theorem setStarted_iv : (s.setStarted b).iv = s.iv := rfl
@[simp] theorem setStarted_w : (s.setStarted b).w = s.w := rfl
@[simp] theorem setStarted_wlen : (s.setStarted b).wlen = s.wlen := rfl
@[simp] theorem setStarted_wasScr : (s.setStarted b).wasScr = s.wasScr := rfl
@[simp] theorem setStarted_rsvd : (s.setStarted b).rsvd = s.rsvd := rfl
@[simp] theorem setStarted_pesWarn : (s.setStarted b).pesWarn = s.pesWarn := rfl
@[simp] theorem setStarted_src : (s.setStarted b).src = s.src := rfl
@[simp] theorem setStarted_srcLen : (s.setStarted b).srcLen = s.srcLen := rfl
@[simp] theorem setStarted_snk : (s.setStarted b).snk = s.snk := rfl
@[simp] theorem setStarted_snkLen : (s.setStarted b).snkLen = s.snkLen := rfl
@[simp] theorem setStarted_runBase : (s.setStarted b).runBase = s.runBase := rfl
@[simp] theorem setStarted_host : (s.setStarted b).host = s.host := rfl
@[simp] theorem setStarted_ioDraws : (s.setStarted b).ioDraws = s.ioDraws := rfl
@[simp] theorem setStarted_ioRest : (s.setStarted b).ioRest = s.ioRest := rfl
@[simp] theorem setStarted_trace : (s.setStarted b).trace = s.trace := rfl
@[simp] theorem setStarted_events : (s.setStarted b).events = s.events := rfl
@[simp] theorem setStarted_freeCount : (s.setStarted b).freeCount = s.freeCount := rfl
end

/-! `setKey` -/
section
variable (s : State) (k : Block)
@[simp] theorem setKey_drvState : (s.setKey k).drvState = s.drvState := rfl
@[simp] theorem setKey_started : (s.setKey k).started = s.started := rfl
@[simp] theorem setKey_cursor : (s.setKey k).cursor = s.cursor := rfl
@[simp] theorem setKey_len : (s.setKey k).len = s.len := rfl
@[simp] theorem setKey_bytesWritten : (s.setKey k).bytesWritten = s.bytesWritten := rfl
@[simp] theorem setKey_retry : (s.setKey k).retry = s.retry := rfl
@[simp] theorem setKey_failCause : (s.setKey k).failCause = s.failCause := rfl
@[simp] theorem setKey_key : (s.setKey k).key = k := rfl
@[simp] theorem setKey_p : (s.setKey k).p = s.p := rfl
@[simp] theorem setKey_o : (s.setKey k).o = s.o := rfl
@[simp] theorem setKey_iv : (s.setKey k).iv = s.iv := rfl
@[simp] theorem setKey_w : (s.setKey k).w = s.w := rfl
@[simp] theorem setKey_wlen : (s.setKey k).wlen = s.wlen := rfl
@[simp] theorem setKey_wasScr : (s.setKey k).wasScr = s.wasScr := rfl
@[simp] theorem setKey_rsvd : (s.setKey k).rsvd = s.rsvd := rfl
@[simp] theorem setKey_pesWarn : (s.setKey k).pesWarn = s.pesWarn := rfl
@[simp] theorem setKey_src : (s.setKey k).src = s.src := rfl
@[simp] theorem setKey_srcLen : (s.setKey k).srcLen = s.srcLen := rfl
@[simp] theorem setKey_snk : (s.setKey k).snk = s.snk := rfl
@[simp] theorem setKey_snkLen : (s.setKey k).snkLen = s.snkLen := rfl
@[simp] theorem setKey_runBase : (s.setKey k).runBase = s.runBase := rfl
@[simp] theorem setKey_host : (s.setKey k).host = s.host := rfl
@[simp] theorem setKey_ioDraws : (s.setKey k).ioDraws = s.ioDraws := rfl
@[simp] theorem setKey_ioRest : (s.setKey k).ioRest = s.ioRest := rfl
@[simp] theorem setKey_trace : (s.setKey k).trace = s.trace := rfl
@[simp] theorem setKey_events : (s.setKey k).events = s.events := rfl
@[simp] theorem setKey_freeCount : (s.setKey k).freeCount = s.freeCount := rfl
end

/-! `setP` -/
section
variable (s : State) (v : Packet)
@[simp] theorem setP_drvState : (s.setP v).drvState = s.drvState := rfl
@[simp] theorem setP_started : (s.setP v).started = s.started := rfl
@[simp] theorem setP_cursor : (s.setP v).cursor = s.cursor := rfl
@[simp] theorem setP_len : (s.setP v).len = s.len := rfl
@[simp] theorem setP_bytesWritten : (s.setP v).bytesWritten = s.bytesWritten := rfl
@[simp] theorem setP_retry : (s.setP v).retry = s.retry := rfl
@[simp] theorem setP_failCause : (s.setP v).failCause = s.failCause := rfl
@[simp] theorem setP_key : (s.setP v).key = s.key := rfl
@[simp] theorem setP_p : (s.setP v).p = v := rfl
@[simp] theorem setP_o : (s.setP v).o = s.o := rfl
@[simp] theorem setP_iv : (s.setP v).iv = s.iv := rfl
@[simp] theorem setP_w : (s.setP v).w = s.w := rfl
@[simp] theorem setP_wlen : (s.setP v).wlen = s.wlen := rfl
@[simp] theorem setP_wasScr : (s.setP v).wasScr = s.wasScr := rfl
@[simp] theorem setP_rsvd : (s.setP v).rsvd = s.rsvd := rfl
@[simp] theorem setP_pesWarn : (s.setP v).pesWarn = s.pesWarn := rfl
@[simp] theorem setP_src : (s.setP v).src = s.src := rfl
@[simp] theorem setP_srcLen : (s.setP v).srcLen = s.srcLen := rfl
@[simp] theorem setP_snk : (s.setP v).snk = s.snk := rfl
@[simp] theorem setP_snkLen : (s.setP v).snkLen = s.snkLen := rfl
@[simp] theorem setP_runBase : (s.setP v).runBase = s.runBase := rfl
@[simp] theorem setP_host : (s.setP v).host = s.host := rfl
@[simp] theorem setP_ioDraws : (s.setP v).ioDraws = s.ioDraws := rfl
@[simp] theorem setP_ioRest : (s.setP v).ioRest = s.ioRest := rfl
@[simp] theorem setP_trace : (s.setP v).trace = s.trace := rfl
@[simp] theorem setP_events : (s.setP v).events = s.events := rfl
@[simp] theorem setP_freeCount : (s.setP v).freeCount = s.freeCount := rfl
end

/-! `setO` -/
section
variable (s : State) (v : Packet)
@[simp] theorem setO_drvState : (s.setO v).drvState = s.drvState := rfl
@[simp] theorem setO_started : (s.setO v).started = s.started := rfl
@[simp] theorem setO_cursor : (s.setO v).cursor = s.cursor := rfl
@[simp] theorem setO_len : (s.setO v).len = s.len := rfl
@[simp] theorem setO_bytesWritten : (s.setO v).bytesWritten = s.bytesWritten := rfl
@[simp] theorem setO_retry : (s.setO v).retry = s.retry := rfl
@[simp] theorem setO_failCause : (s.setO v).failCause = s.failCause := rfl
@[simp] theorem setO_key : (s.setO v).key = s.key := rfl
@[simp] theorem setO_p : (s.setO v).p = s.p := rfl
@[simp] theorem setO_o : (s.setO v).o = v := rfl
@[simp] theorem setO_iv : (s.setO v).iv = s.iv := rfl
@[simp] theorem setO_w : (s.setO v).w = s.w := rfl
@[simp] theorem setO_wlen : (s.setO v).wlen = s.wlen := rfl
@[simp] theorem setO_wasScr : (s.setO v).wasScr = s.wasScr := rfl
@[simp] theorem setO_rsvd : (s.setO v).rsvd = s.rsvd := rfl
@[simp] theorem setO_pesWarn : (s.setO v).pesWarn = s.pesWarn := rfl
@[simp] theorem setO_src : (s.setO v).src = s.src := rfl
@[simp] theorem setO_srcLen : (s.setO v).srcLen = s.srcLen := rfl
@[simp] theorem setO_snk : (s.setO v).snk = s.snk := rfl
@[simp] theorem setO_snkLen : (s.setO v).snkLen = s.snkLen := rfl
@[simp] theorem setO_runBase : (s.setO v).runBase = s.runBase := rfl
@[simp] theorem setO_host : (s.setO v).host = s.host := rfl
@[simp] theorem setO_ioDraws : (s.setO v).ioDraws = s.ioDraws := rfl
@[simp] theorem setO_ioRest : (s.setO v).ioRest = s.ioRest := rfl
@[simp] theorem setO_trace : (s.setO v).trace = s.trace := rfl
@[simp] theorem setO_events : (s.setO v).events = s.events := rfl
@[simp] theorem setO_freeCount : (s.setO v).freeCount = s.freeCount := rfl
end

/-! `setIv` -/
section
variable (s : State) (v : Block)
@[simp] theorem setIv_drvState : (s.setIv v).drvState = s.drvState := rfl
@[simp] theorem setIv_started : (s.setIv v).started = s.started := rfl
@[simp] theorem setIv_cursor : (s.setIv v).cursor = s.cursor := rfl
@[simp] theorem setIv_len : (s.setIv v).len = s.len := rfl
@[simp] theorem setIv_bytesWritten : (s.setIv v).bytesWritten = s.bytesWritten := rfl
@[simp] theorem setIv_retry : (s.setIv v).retry = s.retry := rfl
@[simp] theorem setIv_failCause : (s.setIv v).failCause = s.failCause := rfl
@[simp] theorem setIv_key : (s.setIv v).key = s.key := rfl
@[simp] theorem setIv_p : (s.setIv v).p = s.p := rfl
@[simp] theorem setIv_o : (s.setIv v).o = s.o := rfl
@[simp] theorem setIv_iv : (s.setIv v).iv = v := rfl
@[simp] theorem setIv_w : (s.setIv v).w = s.w := rfl
@[simp] theorem setIv_wlen : (s.setIv v).wlen = s.wlen := rfl
@[simp] theorem setIv_wasScr : (s.setIv v).wasScr = s.wasScr := rfl
@[simp] theorem setIv_rsvd : (s.setIv v).rsvd = s.rsvd := rfl
@[simp] theorem setIv_pesWarn : (s.setIv v).pesWarn = s.pesWarn := rfl
@[simp] theorem setIv_src : (s.setIv v).src = s.src := rfl
@[simp] theorem setIv_srcLen : (s.setIv v).srcLen = s.srcLen := rfl
@[simp] theorem setIv_snk : (s.setIv v).snk = s.snk := rfl
@[simp] theorem setIv_snkLen : (s.setIv v).snkLen = s.snkLen := rfl
@[simp] theorem setIv_runBase : (s.setIv v).runBase = s.runBase := rfl
@[simp] theorem setIv_host : (s.setIv v).host = s.host := rfl
@[simp] theorem setIv_ioDraws : (s.setIv v).ioDraws = s.ioDraws := rfl
@[simp] theorem setIv_ioRest : (s.setIv v).ioRest = s.ioRest := rfl
@[simp] theorem setIv_trace : (s.setIv v).trace = s.trace := rfl
@[simp] theorem setIv_events : (s.setIv v).events = s.events := rfl
@[simp] theorem setIv_freeCount : (s.setIv v).freeCount = s.freeCount := rfl
end

/-! `setWindow` -/
section
variable (s : State) (v : Window) (n : BitVec 11)
@[simp] theorem setWindow_drvState : (s.setWindow v n).drvState = s.drvState := rfl
@[simp] theorem setWindow_started : (s.setWindow v n).started = s.started := rfl
@[simp] theorem setWindow_cursor : (s.setWindow v n).cursor = s.cursor := rfl
@[simp] theorem setWindow_len : (s.setWindow v n).len = s.len := rfl
@[simp] theorem setWindow_bytesWritten : (s.setWindow v n).bytesWritten = s.bytesWritten := rfl
@[simp] theorem setWindow_retry : (s.setWindow v n).retry = s.retry := rfl
@[simp] theorem setWindow_failCause : (s.setWindow v n).failCause = s.failCause := rfl
@[simp] theorem setWindow_key : (s.setWindow v n).key = s.key := rfl
@[simp] theorem setWindow_p : (s.setWindow v n).p = s.p := rfl
@[simp] theorem setWindow_o : (s.setWindow v n).o = s.o := rfl
@[simp] theorem setWindow_iv : (s.setWindow v n).iv = s.iv := rfl
@[simp] theorem setWindow_w : (s.setWindow v n).w = v := rfl
@[simp] theorem setWindow_wlen : (s.setWindow v n).wlen = n := rfl
@[simp] theorem setWindow_wasScr : (s.setWindow v n).wasScr = s.wasScr := rfl
@[simp] theorem setWindow_rsvd : (s.setWindow v n).rsvd = s.rsvd := rfl
@[simp] theorem setWindow_pesWarn : (s.setWindow v n).pesWarn = s.pesWarn := rfl
@[simp] theorem setWindow_src : (s.setWindow v n).src = s.src := rfl
@[simp] theorem setWindow_srcLen : (s.setWindow v n).srcLen = s.srcLen := rfl
@[simp] theorem setWindow_snk : (s.setWindow v n).snk = s.snk := rfl
@[simp] theorem setWindow_snkLen : (s.setWindow v n).snkLen = s.snkLen := rfl
@[simp] theorem setWindow_runBase : (s.setWindow v n).runBase = s.runBase := rfl
@[simp] theorem setWindow_host : (s.setWindow v n).host = s.host := rfl
@[simp] theorem setWindow_ioDraws : (s.setWindow v n).ioDraws = s.ioDraws := rfl
@[simp] theorem setWindow_ioRest : (s.setWindow v n).ioRest = s.ioRest := rfl
@[simp] theorem setWindow_trace : (s.setWindow v n).trace = s.trace := rfl
@[simp] theorem setWindow_events : (s.setWindow v n).events = s.events := rfl
@[simp] theorem setWindow_freeCount : (s.setWindow v n).freeCount = s.freeCount := rfl
end

/-! `setFlags` -/
section
variable (s : State) (f : Sideband)
@[simp] theorem setFlags_drvState : (s.setFlags f).drvState = s.drvState := rfl
@[simp] theorem setFlags_started : (s.setFlags f).started = s.started := rfl
@[simp] theorem setFlags_cursor : (s.setFlags f).cursor = s.cursor := rfl
@[simp] theorem setFlags_len : (s.setFlags f).len = s.len := rfl
@[simp] theorem setFlags_bytesWritten : (s.setFlags f).bytesWritten = s.bytesWritten := rfl
@[simp] theorem setFlags_retry : (s.setFlags f).retry = s.retry := rfl
@[simp] theorem setFlags_failCause : (s.setFlags f).failCause = s.failCause := rfl
@[simp] theorem setFlags_key : (s.setFlags f).key = s.key := rfl
@[simp] theorem setFlags_p : (s.setFlags f).p = s.p := rfl
@[simp] theorem setFlags_o : (s.setFlags f).o = s.o := rfl
@[simp] theorem setFlags_iv : (s.setFlags f).iv = s.iv := rfl
@[simp] theorem setFlags_w : (s.setFlags f).w = s.w := rfl
@[simp] theorem setFlags_wlen : (s.setFlags f).wlen = s.wlen := rfl
@[simp] theorem setFlags_wasScr : (s.setFlags f).wasScr = f.wasScr := rfl
@[simp] theorem setFlags_rsvd : (s.setFlags f).rsvd = f.rsvd := rfl
@[simp] theorem setFlags_pesWarn : (s.setFlags f).pesWarn = f.pesWarn := rfl
@[simp] theorem setFlags_src : (s.setFlags f).src = s.src := rfl
@[simp] theorem setFlags_srcLen : (s.setFlags f).srcLen = s.srcLen := rfl
@[simp] theorem setFlags_snk : (s.setFlags f).snk = s.snk := rfl
@[simp] theorem setFlags_snkLen : (s.setFlags f).snkLen = s.snkLen := rfl
@[simp] theorem setFlags_runBase : (s.setFlags f).runBase = s.runBase := rfl
@[simp] theorem setFlags_host : (s.setFlags f).host = s.host := rfl
@[simp] theorem setFlags_ioDraws : (s.setFlags f).ioDraws = s.ioDraws := rfl
@[simp] theorem setFlags_ioRest : (s.setFlags f).ioRest = s.ioRest := rfl
@[simp] theorem setFlags_trace : (s.setFlags f).trace = s.trace := rfl
@[simp] theorem setFlags_events : (s.setFlags f).events = s.events := rfl
@[simp] theorem setFlags_freeCount : (s.setFlags f).freeCount = s.freeCount := rfl
end

/-! `setSource` -/
section
variable (s : State) (m : Memory) (n : Offset)
@[simp] theorem setSource_drvState : (s.setSource m n).drvState = s.drvState := rfl
@[simp] theorem setSource_started : (s.setSource m n).started = s.started := rfl
@[simp] theorem setSource_cursor : (s.setSource m n).cursor = s.cursor := rfl
@[simp] theorem setSource_len : (s.setSource m n).len = s.len := rfl
@[simp] theorem setSource_bytesWritten : (s.setSource m n).bytesWritten = s.bytesWritten := rfl
@[simp] theorem setSource_retry : (s.setSource m n).retry = s.retry := rfl
@[simp] theorem setSource_failCause : (s.setSource m n).failCause = s.failCause := rfl
@[simp] theorem setSource_key : (s.setSource m n).key = s.key := rfl
@[simp] theorem setSource_p : (s.setSource m n).p = s.p := rfl
@[simp] theorem setSource_o : (s.setSource m n).o = s.o := rfl
@[simp] theorem setSource_iv : (s.setSource m n).iv = s.iv := rfl
@[simp] theorem setSource_w : (s.setSource m n).w = s.w := rfl
@[simp] theorem setSource_wlen : (s.setSource m n).wlen = s.wlen := rfl
@[simp] theorem setSource_wasScr : (s.setSource m n).wasScr = s.wasScr := rfl
@[simp] theorem setSource_rsvd : (s.setSource m n).rsvd = s.rsvd := rfl
@[simp] theorem setSource_pesWarn : (s.setSource m n).pesWarn = s.pesWarn := rfl
@[simp] theorem setSource_src : (s.setSource m n).src = m := rfl
@[simp] theorem setSource_srcLen : (s.setSource m n).srcLen = n := rfl
@[simp] theorem setSource_snk : (s.setSource m n).snk = s.snk := rfl
@[simp] theorem setSource_snkLen : (s.setSource m n).snkLen = s.snkLen := rfl
@[simp] theorem setSource_runBase : (s.setSource m n).runBase = s.runBase := rfl
@[simp] theorem setSource_host : (s.setSource m n).host = s.host := rfl
@[simp] theorem setSource_ioDraws : (s.setSource m n).ioDraws = s.ioDraws := rfl
@[simp] theorem setSource_ioRest : (s.setSource m n).ioRest = s.ioRest := rfl
@[simp] theorem setSource_trace : (s.setSource m n).trace = s.trace := rfl
@[simp] theorem setSource_events : (s.setSource m n).events = s.events := rfl
@[simp] theorem setSource_freeCount : (s.setSource m n).freeCount = s.freeCount := rfl
end

/-! `setSink` -/
section
variable (s : State) (m : Memory) (n : Nat)
@[simp] theorem setSink_drvState : (s.setSink m n).drvState = s.drvState := rfl
@[simp] theorem setSink_started : (s.setSink m n).started = s.started := rfl
@[simp] theorem setSink_cursor : (s.setSink m n).cursor = s.cursor := rfl
@[simp] theorem setSink_len : (s.setSink m n).len = s.len := rfl
@[simp] theorem setSink_bytesWritten : (s.setSink m n).bytesWritten = s.bytesWritten := rfl
@[simp] theorem setSink_retry : (s.setSink m n).retry = s.retry := rfl
@[simp] theorem setSink_failCause : (s.setSink m n).failCause = s.failCause := rfl
@[simp] theorem setSink_key : (s.setSink m n).key = s.key := rfl
@[simp] theorem setSink_p : (s.setSink m n).p = s.p := rfl
@[simp] theorem setSink_o : (s.setSink m n).o = s.o := rfl
@[simp] theorem setSink_iv : (s.setSink m n).iv = s.iv := rfl
@[simp] theorem setSink_w : (s.setSink m n).w = s.w := rfl
@[simp] theorem setSink_wlen : (s.setSink m n).wlen = s.wlen := rfl
@[simp] theorem setSink_wasScr : (s.setSink m n).wasScr = s.wasScr := rfl
@[simp] theorem setSink_rsvd : (s.setSink m n).rsvd = s.rsvd := rfl
@[simp] theorem setSink_pesWarn : (s.setSink m n).pesWarn = s.pesWarn := rfl
@[simp] theorem setSink_src : (s.setSink m n).src = s.src := rfl
@[simp] theorem setSink_srcLen : (s.setSink m n).srcLen = s.srcLen := rfl
@[simp] theorem setSink_snk : (s.setSink m n).snk = m := rfl
@[simp] theorem setSink_snkLen : (s.setSink m n).snkLen = n := rfl
@[simp] theorem setSink_runBase : (s.setSink m n).runBase = s.runBase := rfl
@[simp] theorem setSink_host : (s.setSink m n).host = s.host := rfl
@[simp] theorem setSink_ioDraws : (s.setSink m n).ioDraws = s.ioDraws := rfl
@[simp] theorem setSink_ioRest : (s.setSink m n).ioRest = s.ioRest := rfl
@[simp] theorem setSink_trace : (s.setSink m n).trace = s.trace := rfl
@[simp] theorem setSink_events : (s.setSink m n).events = s.events := rfl
@[simp] theorem setSink_freeCount : (s.setSink m n).freeCount = s.freeCount := rfl
end

/-! `setRunBase` -/
section
variable (s : State) (n : Nat)
@[simp] theorem setRunBase_drvState : (s.setRunBase n).drvState = s.drvState := rfl
@[simp] theorem setRunBase_started : (s.setRunBase n).started = s.started := rfl
@[simp] theorem setRunBase_cursor : (s.setRunBase n).cursor = s.cursor := rfl
@[simp] theorem setRunBase_len : (s.setRunBase n).len = s.len := rfl
@[simp] theorem setRunBase_bytesWritten : (s.setRunBase n).bytesWritten = s.bytesWritten := rfl
@[simp] theorem setRunBase_retry : (s.setRunBase n).retry = s.retry := rfl
@[simp] theorem setRunBase_failCause : (s.setRunBase n).failCause = s.failCause := rfl
@[simp] theorem setRunBase_key : (s.setRunBase n).key = s.key := rfl
@[simp] theorem setRunBase_p : (s.setRunBase n).p = s.p := rfl
@[simp] theorem setRunBase_o : (s.setRunBase n).o = s.o := rfl
@[simp] theorem setRunBase_iv : (s.setRunBase n).iv = s.iv := rfl
@[simp] theorem setRunBase_w : (s.setRunBase n).w = s.w := rfl
@[simp] theorem setRunBase_wlen : (s.setRunBase n).wlen = s.wlen := rfl
@[simp] theorem setRunBase_wasScr : (s.setRunBase n).wasScr = s.wasScr := rfl
@[simp] theorem setRunBase_rsvd : (s.setRunBase n).rsvd = s.rsvd := rfl
@[simp] theorem setRunBase_pesWarn : (s.setRunBase n).pesWarn = s.pesWarn := rfl
@[simp] theorem setRunBase_src : (s.setRunBase n).src = s.src := rfl
@[simp] theorem setRunBase_srcLen : (s.setRunBase n).srcLen = s.srcLen := rfl
@[simp] theorem setRunBase_snk : (s.setRunBase n).snk = s.snk := rfl
@[simp] theorem setRunBase_snkLen : (s.setRunBase n).snkLen = s.snkLen := rfl
@[simp] theorem setRunBase_runBase : (s.setRunBase n).runBase = n := rfl
@[simp] theorem setRunBase_host : (s.setRunBase n).host = s.host := rfl
@[simp] theorem setRunBase_ioDraws : (s.setRunBase n).ioDraws = s.ioDraws := rfl
@[simp] theorem setRunBase_ioRest : (s.setRunBase n).ioRest = s.ioRest := rfl
@[simp] theorem setRunBase_trace : (s.setRunBase n).trace = s.trace := rfl
@[simp] theorem setRunBase_events : (s.setRunBase n).events = s.events := rfl
@[simp] theorem setRunBase_freeCount : (s.setRunBase n).freeCount = s.freeCount := rfl
end

/-! `setHost` -/
section
variable (s : State) (l : List HostAct)
@[simp] theorem setHost_drvState : (s.setHost l).drvState = s.drvState := rfl
@[simp] theorem setHost_started : (s.setHost l).started = s.started := rfl
@[simp] theorem setHost_cursor : (s.setHost l).cursor = s.cursor := rfl
@[simp] theorem setHost_len : (s.setHost l).len = s.len := rfl
@[simp] theorem setHost_bytesWritten : (s.setHost l).bytesWritten = s.bytesWritten := rfl
@[simp] theorem setHost_retry : (s.setHost l).retry = s.retry := rfl
@[simp] theorem setHost_failCause : (s.setHost l).failCause = s.failCause := rfl
@[simp] theorem setHost_key : (s.setHost l).key = s.key := rfl
@[simp] theorem setHost_p : (s.setHost l).p = s.p := rfl
@[simp] theorem setHost_o : (s.setHost l).o = s.o := rfl
@[simp] theorem setHost_iv : (s.setHost l).iv = s.iv := rfl
@[simp] theorem setHost_w : (s.setHost l).w = s.w := rfl
@[simp] theorem setHost_wlen : (s.setHost l).wlen = s.wlen := rfl
@[simp] theorem setHost_wasScr : (s.setHost l).wasScr = s.wasScr := rfl
@[simp] theorem setHost_rsvd : (s.setHost l).rsvd = s.rsvd := rfl
@[simp] theorem setHost_pesWarn : (s.setHost l).pesWarn = s.pesWarn := rfl
@[simp] theorem setHost_src : (s.setHost l).src = s.src := rfl
@[simp] theorem setHost_srcLen : (s.setHost l).srcLen = s.srcLen := rfl
@[simp] theorem setHost_snk : (s.setHost l).snk = s.snk := rfl
@[simp] theorem setHost_snkLen : (s.setHost l).snkLen = s.snkLen := rfl
@[simp] theorem setHost_runBase : (s.setHost l).runBase = s.runBase := rfl
@[simp] theorem setHost_host : (s.setHost l).host = l := rfl
@[simp] theorem setHost_ioDraws : (s.setHost l).ioDraws = s.ioDraws := rfl
@[simp] theorem setHost_ioRest : (s.setHost l).ioRest = s.ioRest := rfl
@[simp] theorem setHost_trace : (s.setHost l).trace = s.trace := rfl
@[simp] theorem setHost_events : (s.setHost l).events = s.events := rfl
@[simp] theorem setHost_freeCount : (s.setHost l).freeCount = s.freeCount := rfl
end

/-! `setIoDraws` -/
section
variable (s : State) (l : List IoStatus)
@[simp] theorem setIoDraws_drvState : (s.setIoDraws l).drvState = s.drvState := rfl
@[simp] theorem setIoDraws_started : (s.setIoDraws l).started = s.started := rfl
@[simp] theorem setIoDraws_cursor : (s.setIoDraws l).cursor = s.cursor := rfl
@[simp] theorem setIoDraws_len : (s.setIoDraws l).len = s.len := rfl
@[simp] theorem setIoDraws_bytesWritten : (s.setIoDraws l).bytesWritten = s.bytesWritten := rfl
@[simp] theorem setIoDraws_retry : (s.setIoDraws l).retry = s.retry := rfl
@[simp] theorem setIoDraws_failCause : (s.setIoDraws l).failCause = s.failCause := rfl
@[simp] theorem setIoDraws_key : (s.setIoDraws l).key = s.key := rfl
@[simp] theorem setIoDraws_p : (s.setIoDraws l).p = s.p := rfl
@[simp] theorem setIoDraws_o : (s.setIoDraws l).o = s.o := rfl
@[simp] theorem setIoDraws_iv : (s.setIoDraws l).iv = s.iv := rfl
@[simp] theorem setIoDraws_w : (s.setIoDraws l).w = s.w := rfl
@[simp] theorem setIoDraws_wlen : (s.setIoDraws l).wlen = s.wlen := rfl
@[simp] theorem setIoDraws_wasScr : (s.setIoDraws l).wasScr = s.wasScr := rfl
@[simp] theorem setIoDraws_rsvd : (s.setIoDraws l).rsvd = s.rsvd := rfl
@[simp] theorem setIoDraws_pesWarn : (s.setIoDraws l).pesWarn = s.pesWarn := rfl
@[simp] theorem setIoDraws_src : (s.setIoDraws l).src = s.src := rfl
@[simp] theorem setIoDraws_srcLen : (s.setIoDraws l).srcLen = s.srcLen := rfl
@[simp] theorem setIoDraws_snk : (s.setIoDraws l).snk = s.snk := rfl
@[simp] theorem setIoDraws_snkLen : (s.setIoDraws l).snkLen = s.snkLen := rfl
@[simp] theorem setIoDraws_runBase : (s.setIoDraws l).runBase = s.runBase := rfl
@[simp] theorem setIoDraws_host : (s.setIoDraws l).host = s.host := rfl
@[simp] theorem setIoDraws_ioDraws : (s.setIoDraws l).ioDraws = l := rfl
@[simp] theorem setIoDraws_ioRest : (s.setIoDraws l).ioRest = s.ioRest := rfl
@[simp] theorem setIoDraws_trace : (s.setIoDraws l).trace = s.trace := rfl
@[simp] theorem setIoDraws_events : (s.setIoDraws l).events = s.events := rfl
@[simp] theorem setIoDraws_freeCount : (s.setIoDraws l).freeCount = s.freeCount := rfl
end

/-! `record` -/
section
variable (s : State) (l : List Txn)
@[simp] theorem record_drvState : (s.record l).drvState = s.drvState := rfl
@[simp] theorem record_started : (s.record l).started = s.started := rfl
@[simp] theorem record_cursor : (s.record l).cursor = s.cursor := rfl
@[simp] theorem record_len : (s.record l).len = s.len := rfl
@[simp] theorem record_bytesWritten : (s.record l).bytesWritten = s.bytesWritten := rfl
@[simp] theorem record_retry : (s.record l).retry = s.retry := rfl
@[simp] theorem record_failCause : (s.record l).failCause = s.failCause := rfl
@[simp] theorem record_key : (s.record l).key = s.key := rfl
@[simp] theorem record_p : (s.record l).p = s.p := rfl
@[simp] theorem record_o : (s.record l).o = s.o := rfl
@[simp] theorem record_iv : (s.record l).iv = s.iv := rfl
@[simp] theorem record_w : (s.record l).w = s.w := rfl
@[simp] theorem record_wlen : (s.record l).wlen = s.wlen := rfl
@[simp] theorem record_wasScr : (s.record l).wasScr = s.wasScr := rfl
@[simp] theorem record_rsvd : (s.record l).rsvd = s.rsvd := rfl
@[simp] theorem record_pesWarn : (s.record l).pesWarn = s.pesWarn := rfl
@[simp] theorem record_src : (s.record l).src = s.src := rfl
@[simp] theorem record_srcLen : (s.record l).srcLen = s.srcLen := rfl
@[simp] theorem record_snk : (s.record l).snk = s.snk := rfl
@[simp] theorem record_snkLen : (s.record l).snkLen = s.snkLen := rfl
@[simp] theorem record_runBase : (s.record l).runBase = s.runBase := rfl
@[simp] theorem record_host : (s.record l).host = s.host := rfl
@[simp] theorem record_ioDraws : (s.record l).ioDraws = s.ioDraws := rfl
@[simp] theorem record_ioRest : (s.record l).ioRest = s.ioRest := rfl
@[simp] theorem record_trace : (s.record l).trace = s.trace ++ l := rfl
@[simp] theorem record_events : (s.record l).events = s.events := rfl
@[simp] theorem record_freeCount : (s.record l).freeCount = s.freeCount := rfl
end

/-! `raise` -/
section
variable (s : State) (l : List Event)
@[simp] theorem raise_drvState : (s.raise l).drvState = s.drvState := rfl
@[simp] theorem raise_started : (s.raise l).started = s.started := rfl
@[simp] theorem raise_cursor : (s.raise l).cursor = s.cursor := rfl
@[simp] theorem raise_len : (s.raise l).len = s.len := rfl
@[simp] theorem raise_bytesWritten : (s.raise l).bytesWritten = s.bytesWritten := rfl
@[simp] theorem raise_retry : (s.raise l).retry = s.retry := rfl
@[simp] theorem raise_failCause : (s.raise l).failCause = s.failCause := rfl
@[simp] theorem raise_key : (s.raise l).key = s.key := rfl
@[simp] theorem raise_p : (s.raise l).p = s.p := rfl
@[simp] theorem raise_o : (s.raise l).o = s.o := rfl
@[simp] theorem raise_iv : (s.raise l).iv = s.iv := rfl
@[simp] theorem raise_w : (s.raise l).w = s.w := rfl
@[simp] theorem raise_wlen : (s.raise l).wlen = s.wlen := rfl
@[simp] theorem raise_wasScr : (s.raise l).wasScr = s.wasScr := rfl
@[simp] theorem raise_rsvd : (s.raise l).rsvd = s.rsvd := rfl
@[simp] theorem raise_pesWarn : (s.raise l).pesWarn = s.pesWarn := rfl
@[simp] theorem raise_src : (s.raise l).src = s.src := rfl
@[simp] theorem raise_srcLen : (s.raise l).srcLen = s.srcLen := rfl
@[simp] theorem raise_snk : (s.raise l).snk = s.snk := rfl
@[simp] theorem raise_snkLen : (s.raise l).snkLen = s.snkLen := rfl
@[simp] theorem raise_runBase : (s.raise l).runBase = s.runBase := rfl
@[simp] theorem raise_host : (s.raise l).host = s.host := rfl
@[simp] theorem raise_ioDraws : (s.raise l).ioDraws = s.ioDraws := rfl
@[simp] theorem raise_ioRest : (s.raise l).ioRest = s.ioRest := rfl
@[simp] theorem raise_trace : (s.raise l).trace = s.trace := rfl
@[simp] theorem raise_events : (s.raise l).events = s.events ++ l := rfl
@[simp] theorem raise_freeCount : (s.raise l).freeCount = s.freeCount := rfl
end

/-! `tookFree` -/
section
variable (s : State)
@[simp] theorem tookFree_drvState : (s.tookFree).drvState = s.drvState := rfl
@[simp] theorem tookFree_started : (s.tookFree).started = s.started := rfl
@[simp] theorem tookFree_cursor : (s.tookFree).cursor = s.cursor := rfl
@[simp] theorem tookFree_len : (s.tookFree).len = s.len := rfl
@[simp] theorem tookFree_bytesWritten : (s.tookFree).bytesWritten = s.bytesWritten := rfl
@[simp] theorem tookFree_retry : (s.tookFree).retry = s.retry := rfl
@[simp] theorem tookFree_failCause : (s.tookFree).failCause = s.failCause := rfl
@[simp] theorem tookFree_key : (s.tookFree).key = s.key := rfl
@[simp] theorem tookFree_p : (s.tookFree).p = s.p := rfl
@[simp] theorem tookFree_o : (s.tookFree).o = s.o := rfl
@[simp] theorem tookFree_iv : (s.tookFree).iv = s.iv := rfl
@[simp] theorem tookFree_w : (s.tookFree).w = s.w := rfl
@[simp] theorem tookFree_wlen : (s.tookFree).wlen = s.wlen := rfl
@[simp] theorem tookFree_wasScr : (s.tookFree).wasScr = s.wasScr := rfl
@[simp] theorem tookFree_rsvd : (s.tookFree).rsvd = s.rsvd := rfl
@[simp] theorem tookFree_pesWarn : (s.tookFree).pesWarn = s.pesWarn := rfl
@[simp] theorem tookFree_src : (s.tookFree).src = s.src := rfl
@[simp] theorem tookFree_srcLen : (s.tookFree).srcLen = s.srcLen := rfl
@[simp] theorem tookFree_snk : (s.tookFree).snk = s.snk := rfl
@[simp] theorem tookFree_snkLen : (s.tookFree).snkLen = s.snkLen := rfl
@[simp] theorem tookFree_runBase : (s.tookFree).runBase = s.runBase := rfl
@[simp] theorem tookFree_host : (s.tookFree).host = s.host := rfl
@[simp] theorem tookFree_ioDraws : (s.tookFree).ioDraws = s.ioDraws := rfl
@[simp] theorem tookFree_ioRest : (s.tookFree).ioRest = s.ioRest := rfl
@[simp] theorem tookFree_trace : (s.tookFree).trace = s.trace := rfl
@[simp] theorem tookFree_events : (s.tookFree).events = s.events := rfl
@[simp] theorem tookFree_freeCount : (s.tookFree).freeCount = s.freeCount + 1 := rfl
end

end Sys2Proof.Machine.State
end

