-- ==== Sys2Proof/Laws/Descrambler.lean ====
section
/-! SUPPORT. The CBC loop after `n` rounds (40_descrambler.md R115): one lemma each for O outside the blocks, O inside them, IV and
the cipher calls; and what delivering a packet's result writes. -/

namespace Sys2Proof.Machine

variable (D : Block → Key → Block) (key : Key) (p : Packet) (ps : Nat)

/-- The rounds of a payload start fit the packet (R94). -/
theorem blocks_fit {ps : Nat} (h : ps ≤ 188) : ps + 16 * roundsOf ps ≤ 188 := by
  simp only [roundsOf, Config.PKT, Config.BLK]
  omega

/-- IV after `n` rounds: the last input block, or what it was. -/
theorem cbcLoop_iv (n : Nat) (st : CbcState) :
    (cbcLoop D key p ps n st).iv = if n = 0 then st.iv else blockAt p (blockStart ps (n - 1)) := by
  cases n <;> simp [cbcLoop, cbcRound]

/-- The cipher calls of `n` rounds, in rising order (R123). -/
theorem cbcLoop_calls (n : Nat) (st : CbcState) :
    (cbcLoop D key p ps n st).calls = st.calls ++ (List.range n).map (cipherCall D key p ps) := by
  induction n with
  | zero => simp [cbcLoop]
  | succ n ih => simp [cbcLoop, cbcRound, ih, List.range_succ, cipherCall]

/-- Outside the first `n` blocks, O is untouched. -/
theorem cbcLoop_outside (n : Nat) (st : CbcState) {t : Nat} (ht : t < 188) (h : t < ps ∨ ps + 16 * n ≤ t) :
    byteAt (cbcLoop D key p ps n st).o t = byteAt st.o t := by
  induction n with
  | zero => rfl
  | succ n ih =>
    rw [cbcLoop, cbcRound]
    simp only
    rw [byteAt_putBlock_outside _ _ _ ht (by simp only [blockStart, Config.BLK]; omega)]
    exact ih (by omega)

/-- Block `i` of the first `n`: the decrypted input block XOR the chaining value, from the zero-th's IV or the input block before
it. -/
theorem cbcLoop_inside (n : Nat) (st : CbcState) (hfit : ps + 16 * n ≤ 188) {i j : Nat} (hi : i < n) (hj : j < 16) :
    byteAt (cbcLoop D key p ps n st).o (blockStart ps i + j) =
      byteAt (D (blockAt p (blockStart ps i)) key) j ^^^
        byteAt (if i = 0 then st.iv else blockAt p (blockStart ps (i - 1))) j := by
  induction n with
  | zero => omega
  | succ n ih =>
    have hb : blockStart ps n = ps + 16 * n := rfl
    have hbi : blockStart ps i = ps + 16 * i := rfl
    rw [cbcLoop, cbcRound]
    simp only
    by_cases hin : i = n
    · subst hin
      rw [byteAt_putBlock_inside _ _ _ (by omega) (by omega) (by omega), Nat.add_sub_cancel_left, byteAt_xor16 _ _ hj,
        cbcLoop_iv]
    · rw [byteAt_putBlock_outside _ _ _ (by omega) (by omega)]
      exact ih (by omega) (by omega)

/-- Before the loop O is P but for the cleared bits of byte 3 (R115, R119). -/
theorem byteAt_cbcStart {t : Nat} (ht : t < 188) :
    byteAt (cbcStart p).o t = if t = 3 then clearSc (byteAt p 3) else byteAt p t :=
  byteAt_putByte _ _ _ ht

/-- PesMismatch is the one event of a warning, and there is none without (R124). -/
theorem mem_warnEvents (warn : Bool) (e : Event) : e ∈ warnEvents ps warn ↔ warn = true ∧ e = .pesMismatch ps := by
  cases warn <;> simp [warnEvents]

theorem warnEvents_eq (warn : Bool) : warnEvents ps warn = if warn then [.pesMismatch ps] else [] := by
  cases warn <;> rfl

/-- What a packet's result leaves in the state. -/
theorem deliver_eq (s : State) (r : PacketResult) :
    s.deliver r = { s with
      o := r.output, iv := r.iv.getD s.iv, wasScr := r.flags.wasScr, rsvd := r.flags.rsvd, pesWarn := r.flags.pesWarn,
      trace := s.trace ++ r.calls, events := s.events ++ r.events } := by
  cases h : r.iv <;> simp [State.deliver, h, State.leaveIv] <;> rfl

/-- A class's meaning delivers that class's result: never a fault, never a refusal (R110). -/
theorem runClass_next (c : PacketClass) (s : State) : ∃ r, runClass c s = .next (s.deliver r) := by
  cases c <;> exact ⟨_, rfl⟩

/-- The class a packet decodes to delivers what the contract `decrypt` gives (R110, R127). -/
theorem runClass_classOf (s : State) : runClass (classOf s.p) s = .next (s.deliver (decrypt s.p s.key)) := by
  unfold decrypt decryptWith
  cases classOf s.p <;> rfl

/-- A payload start lies in 4..188 (R91). -/
theorem payloadStart_bounds (p : Packet) : 4 ≤ payloadStart p ∧ payloadStart p ≤ 188 := by
  unfold payloadStart psAf psNoaf psRawAf
  simp only [Config.HDR, Config.PKT]
  split <;> omega

/-- The scrambled classes by the packet's bytes (R88, R89). -/
theorem isScrambled_iff (p : Packet) : isScrambled (classOf p) = true ↔
    byteAt p 0 = 0x47#8 ∧ scOf (byteAt p 3) ≠ 0x00#8 ∧ scOf (byteAt p 3) ≠ 0x40#8 := by
  unfold classOf classOfHeader
  split
  · simp_all [isScrambled]
  · split
    · simp_all [isScrambled]
    · split
      · simp_all [isScrambled]
      · split <;> simp_all [isScrambled]

/-- Both scrambled classes run the one body at the packet's payload start (R117, R118). -/
theorem decryptWith_scrambled (D : Block → Key → Block) (on : Bool) (key : Key) (p : Packet)
    (h : isScrambled (classOf p) = true) :
    decryptWith D on p key = descrambleWith D on (pusiOf (byteAt p 1)) (payloadStart p) p key := by
  obtain ⟨h0, h1, h2⟩ := (isScrambled_iff p).mp h
  unfold decryptWith payloadStart classOf classOfHeader
  rw [if_neg (not_not.mpr h0), if_neg h1, if_neg h2]
  by_cases ha : afOf (byteAt p 3) = false <;> simp [ha, descHeaderOf]

/-- A packet with the sync byte is not REJECT (R88). -/
theorem classOf_not_reject {p : Packet} (h : byteAt p 0 = 0x47#8) (q : RejectHeader) : classOf p ≠ .reject q := by
  unfold classOf classOfHeader
  rw [if_neg (not_not.mpr h)]
  split
  · simp
  · split
    · simp
    · split <;> simp

end Sys2Proof.Machine
end

