-- ==== Sys2Proof/Laws/Memory.lean ====
section
/-! SUPPORT. Byte memories: read after write, and the canonical form that every operation keeps (log 9). -/

namespace Sys2Proof.Machine

theorem readCells_writeCells (m : List Host.Cell) (a b : Nat) (v : Byte) (hs : m.Pairwise fun x y => x.1 < y.1) :
    readCells (writeCells m a v) b = if b = a then v else readCells m b := by
  induction m with
  | nil =>
    by_cases hv : v = Config.unlistedByte <;> by_cases hb : b = a <;>
      simp [writeCells, readCells, hv, hb, eq_comm (a := a)]
  | cons c m ih =>
    have hm := (List.pairwise_cons.mp hs).2
    have hc := (List.pairwise_cons.mp hs).1
    have habsent : ∀ x, (∀ y ∈ m, x ≠ y.1) → readCells m x = Config.unlistedByte := by
      intro x hx
      clear ih hs hc hm
      induction m with
      | nil => rfl
      | cons y m ih =>
        rw [readCells, if_neg (by have := hx y (by simp); omega)]
        exact ih fun z hz => hx z (by simp [hz])
    unfold writeCells
    split
    · rename_i hlt
      have hgone : readCells m a = Config.unlistedByte := habsent a fun y hy => by have := hc y hy; omega
      split
      · rename_i hv
        by_cases hb : b = a
        · subst hb; simp [readCells, hgone, hv, show c.1 ≠ b by omega]
        · simp [hb]
      · by_cases hb : b = a
        · subst hb; simp [readCells]
        · simp [readCells, hb, Ne.symm hb]
    · split
      · rename_i _ heq
        have hgone : readCells m a = Config.unlistedByte := habsent a fun y hy => by have := hc y hy; omega
        split
        · rename_i hv
          by_cases hb : b = a
          · subst hb; simp [hgone, hv]
          · simp [readCells, hb, show c.1 ≠ b by omega]
        · by_cases hb : b = a
          · subst hb; simp [readCells]
          · simp [readCells, hb, Ne.symm hb, show c.1 ≠ b by omega]
      · by_cases hb : c.1 = b
        · simp [readCells, hb, show b ≠ a by omega]
        · simp [readCells, hb, ih hm]

theorem writeCells_mem {m : List Host.Cell} {a : Nat} {v : Byte} {c : Host.Cell} (h : c ∈ writeCells m a v) :
    (c = (a, v) ∧ v ≠ Config.unlistedByte) ∨ c ∈ m := by
  induction m with
  | nil =>
    unfold writeCells at h
    split at h <;> simp_all
  | cons d m ih =>
    unfold writeCells at h
    split at h
    · split at h
      · exact .inr h
      · rename_i hv
        exact (List.mem_cons.mp h).imp (fun e => ⟨e, hv⟩) id
    · split at h
      · split at h
        · exact .inr (List.mem_cons_of_mem _ h)
        · rename_i hv
          exact (List.mem_cons.mp h).imp (fun e => ⟨e, hv⟩) (List.mem_cons_of_mem _)
      · rcases List.mem_cons.mp h with h | h
        · simp [h]
        · rcases ih h with h | h <;> simp [h]

theorem writeCells_sorted {m : List Host.Cell} (a : Nat) (v : Byte) (hs : m.Pairwise fun x y => x.1 < y.1) :
    (writeCells m a v).Pairwise fun x y => x.1 < y.1 := by
  induction m with
  | nil =>
    unfold writeCells
    split <;> simp
  | cons c m ih =>
    have hm := (List.pairwise_cons.mp hs).2
    have hc := (List.pairwise_cons.mp hs).1
    unfold writeCells
    split
    · rename_i hlt
      split
      · exact hs
      · refine List.pairwise_cons.mpr ⟨fun y hy => ?_, hs⟩
        rcases List.mem_cons.mp hy with h | h
        · subst h; exact hlt
        · have := hc y h; simp only; omega
    · split
      · rename_i _ heq
        split
        · exact hm
        · exact List.pairwise_cons.mpr ⟨fun y hy => by have := hc y hy; simp only; omega, hm⟩
      · refine List.pairwise_cons.mpr ⟨fun y hy => ?_, ih hm⟩
        rcases writeCells_mem hy with ⟨h, -⟩ | h
        · subst h; simp only; omega
        · exact hc y h

namespace Memory

theorem wf_iff (m : Memory) :
    m.wf = true ↔ (m.cells.Pairwise fun x y => x.1 < y.1) ∧ ∀ c ∈ m.cells, c.2 ≠ Config.unlistedByte := by
  simp [wf]

theorem within_iff (m : Memory) (n : Nat) : m.within n = true ↔ ∀ c ∈ m.cells, c.1 < n := by
  simp [within]

theorem empty_wf : empty.wf = true := by decide

theorem empty_within (n : Nat) : empty.within n = true := by simp [within, empty]

theorem read_empty (a : Nat) : empty.read a = Config.unlistedByte := rfl

/-- Reading after writing one byte. -/
theorem read_write (m : Memory) (a b : Nat) (v : Byte) (h : m.wf = true) :
    (m.write a v).read b = if b = a then v else m.read b :=
  readCells_writeCells m.cells a b v ((wf_iff m).mp h).1

/-- A write keeps the canonical form. -/
theorem write_wf (m : Memory) (a : Nat) (v : Byte) (h : m.wf = true) : (m.write a v).wf = true := by
  obtain ⟨h1, h2⟩ := (wf_iff m).mp h
  refine (wf_iff _).mpr ⟨writeCells_sorted a v h1, fun c hc => ?_⟩
  rcases writeCells_mem hc with ⟨rfl, hv⟩ | hc
  · exact hv
  · exact h2 c hc

theorem write_within (m : Memory) (a : Nat) (v : Byte) {n k : Nat} (h : m.within n = true) (hn : n ≤ k) (ha : a < k) :
    (m.write a v).within k = true := by
  rw [within_iff] at h ⊢
  intro c hc
  rcases writeCells_mem hc with ⟨rfl, -⟩ | hc
  · exact ha
  · have := h c hc; omega

/-- A list of writes keeps the canonical form. -/
theorem writeBytes_wf (l : List Byte) (m : Memory) (a : Nat) (h : m.wf = true) : (m.writeBytes a l).wf = true := by
  induction l generalizing m a with
  | nil => exact h
  | cons b l ih => exact ih _ _ (write_wf m a b h)

theorem writeBytes_within (l : List Byte) (m : Memory) (a : Nat) {n k : Nat} (h : m.within n = true) (hn : n ≤ k)
    (ha : a + l.length ≤ k) : (m.writeBytes a l).within k = true := by
  induction l generalizing m a n with
  | nil =>
    rw [within_iff] at h ⊢
    intro c hc
    have := h c hc; omega
  | cons b l ih =>
    simp only [List.length_cons] at ha
    exact ih _ _ (write_within m a b h hn (by omega)) (le_refl k) (by omega)

/-- Reading after writing a list of bytes: inside it its byte, outside it what was there. -/
theorem read_writeBytes (l : List Byte) (m : Memory) (a b : Nat) (h : m.wf = true) :
    (m.writeBytes a l).read b = if a ≤ b ∧ b < a + l.length then l.getD (b - a) 0 else m.read b := by
  induction l generalizing m a with
  | nil => simp [writeBytes, show ¬(a ≤ b ∧ b < a) by omega]
  | cons v l ih =>
    rw [writeBytes, ih _ _ (write_wf m a v h), read_write m a b v h]
    simp only [List.length_cons]
    by_cases hb : b = a
    · subst hb; simp
    · by_cases h1 : a + 1 ≤ b ∧ b < a + 1 + l.length
      · rw [if_pos h1, if_pos (by omega), show b - a = (b - (a + 1)) + 1 by omega, List.getD_cons_succ]
      · rw [if_neg h1, if_neg hb, if_neg (by omega)]

@[simp] theorem readBytes_length (m : Memory) (a n : Nat) : (m.readBytes a n).length = n := by simp [readBytes]

theorem readBytes_getD (m : Memory) (a n : Nat) {t : Nat} (h : t < n) : (m.readBytes a n).getD t 0 = m.read (a + t) := by
  simp [readBytes, List.getD, h]

/-- The memory of a list of bytes is canonical, holds them, and nothing past them. -/
theorem ofBytes_wf (l : List Byte) : (ofBytes l).wf = true := writeBytes_wf l _ _ empty_wf

theorem ofBytes_within (l : List Byte) : (ofBytes l).within l.length = true :=
  writeBytes_within l empty 0 (empty_within 0) (by omega) (by omega)

theorem read_ofBytes (l : List Byte) {a : Nat} (h : a < l.length) : (ofBytes l).read a = l.getD a 0 := by
  rw [ofBytes, read_writeBytes l _ _ _ empty_wf, if_pos (by omega), Nat.sub_zero]

end Memory

end Sys2Proof.Machine
end

