-- ==== Sys2Proof/Laws/Ops.lean ====
section
/-! SUPPORT. What each shared operation can do, said once: the port transactions, the buffer fills, the entries and returns, the
append, the scan. Each is an equation on the whole state, so that a frame is read off it. -/

namespace Sys2Proof.Machine

theorem afterSrcLen_eq (s : State) :
    s.afterSrcLen = { s with ioDraws := s.ioDraws.tail, trace := s.trace ++ [.len s.srcLenAnswer] } := rfl

theorem afterRead_eq (s : State) (a : Offset) (n : Nat) :
    s.afterRead a n = { s with ioDraws := s.ioDraws.tail, trace := s.trace ++ [.read a n (s.readAnswer a n)] } := rfl

/-- A read inside the source answers, and changes the draws and the trace only (R53, R64). -/
theorem memRead_inside (s : State) (a : Offset) (n : Nat) (h : a.toNat ≤ s.srcLen.toNat) :
    s.memRead a n = .next (s.readAnswer a n, s.afterRead a n) := by
  rw [State.memRead, if_neg (by omega)]

/-- What a read answers with status ok: the bytes that exist (R53). -/
theorem readAnswer_ok (s : State) (a : Offset) (n : Nat) (h : s.nextStatus = .ok) :
    s.readAnswer a n = some (s.src.readBytes a.toNat (min n (s.srcLen.toNat - a.toNat))) := by
  simp [State.readAnswer, h]

theorem readAnswer_err (s : State) (a : Offset) (n : Nat) (h : s.nextStatus = .err) : s.readAnswer a n = none := by
  simp [State.readAnswer, h]

theorem srcLenAnswer_ok (s : State) (h : s.nextStatus = .ok) : s.srcLenAnswer = some s.srcLen := by
  simp [State.srcLenAnswer, h]

theorem srcLenAnswer_err (s : State) (h : s.nextStatus = .err) : s.srcLenAnswer = none := by
  simp [State.srcLenAnswer, h]

theorem losePacket_eq (s : State) :
    s.losePacket = { s with p := tabulate 188 (Config.freeByte s.freeCount), freeCount := s.freeCount + 1 } := rfl

theorem loseWindow_eq (s : State) :
    s.loseWindow = { s with w := tabulate 1024 (Config.freeByte s.freeCount), freeCount := s.freeCount + 1 } := by
  unfold State.loseWindow State.setWindow State.tookFree; rfl

theorem fillPacket_eq (s : State) (l : List Byte) : s.fillPacket l = { s with p := ofList 188 l } := rfl

theorem fillWindow_eq (s : State) (l : List Byte) :
    s.fillWindow l = { s with
      w := tabulate 1024 fun t => if t < l.length then l.getD t 0 else Config.freeByte s.freeCount t,
      wlen := BitVec.ofNat 11 l.length, freeCount := s.freeCount + 1 } := by
  unfold State.fillWindow State.setWindow State.tookFree; rfl

theorem enterFailed_eq (s : State) (c : FailCause) (e : Event) :
    s.enterFailed c e = { s with drvState := .failed, failCause := c, events := s.events ++ [e] } := rfl

theorem enterRecovery_eq (s : State) :
    s.enterRecovery = { s with drvState := .searching, retry := 0, events := s.events ++ [.syncLoss s.cursor] } := rfl

theorem lockAt_eq (s : State) (i : Nat) :
    s.lockAt i = { s with drvState := .locked, cursor := s.cursor + BitVec.ofNat 64 i } := rfl

/-- The append with status ok (R55). -/
theorem afterWrite_ok (s : State) (h : s.nextStatus = .ok) :
    s.afterWrite = { s with
      ioDraws := s.ioDraws.tail, trace := s.trace ++ [.write s.bytesWritten s.o s.sideband .ok],
      snk := s.snk.writeBytes s.snkLen s.o.toList, snkLen := s.snkLen + 188 } := by
  simp [State.afterWrite, h]; rfl

/-- The append with status err: nothing appended (R55, R198). -/
theorem afterWrite_err (s : State) (h : s.nextStatus = .err) :
    s.afterWrite = { s with
      ioDraws := s.ioDraws.tail, trace := s.trace ++ [.write s.bytesWritten s.o s.sideband .err] } := by
  simp [State.afterWrite, h]; rfl

/-- A consumed packet whose append succeeds (R169). -/
theorem appendPacket_ok (s : State) (h : s.nextStatus = .ok) :
    appendPacket s = { s with
      ioDraws := s.ioDraws.tail, trace := s.trace ++ [.write s.bytesWritten s.o s.sideband .ok],
      snk := s.snk.writeBytes s.snkLen s.o.toList, snkLen := s.snkLen + 188,
      bytesWritten := s.bytesWritten + 188#64, cursor := s.cursor + 188#64 } := by
  simp only [appendPacket, h, afterWrite_ok s h]; rfl

/-- A packet whose append fails (R198). -/
theorem appendPacket_err (s : State) (h : s.nextStatus = .err) :
    appendPacket s = { s with
      ioDraws := s.ioDraws.tail, trace := s.trace ++ [.write s.bytesWritten s.o s.sideband .err],
      drvState := .failed, failCause := .snkIo, events := s.events ++ [.snkIoError s.bytesWritten] } := by
  simp only [appendPacket, h, afterWrite_err s h]; rfl

/-- Every status is one of two. -/
theorem ok_or_err (d : IoStatus) : d = .ok ∨ d = .err := by cases d <;> simp

/-- The bytes of a filled window (R141). -/
theorem byteAt_fillWindow (s : State) (l : List Byte) {t : Nat} (h1 : t < 1024) (h2 : t < l.length) :
    byteAt (s.fillWindow l).w t = l.getD t 0 := by
  rw [fillWindow_eq, byteAt_tabulate _ h1, if_pos h2]

/-- WLEN of a filled window (R141). -/
theorem wlen_fillWindow (s : State) (l : List Byte) (h : l.length ≤ 1024) : (s.fillWindow l).wlen.toNat = l.length := by
  rw [fillWindow_eq]
  simp only [BitVec.toNat_ofNat]
  omega

/-- The three bytes of a triple (R142). -/
theorem triple_iff (w : Window) (i : Nat) : triple w i = true ↔
    byteAt w i = Config.SYNC ∧ byteAt w (i + 188) = Config.SYNC ∧ byteAt w (i + 376) = Config.SYNC := by
  have h3 : List.range Config.NSYNC = [0, 1, 2] := rfl
  have h2 : 2 * Config.PKT = 376 := rfl
  rw [triple, h3]
  simp [h2]

/-- An offset plus a count that fits does not wrap (R26). -/
theorem offset_add {x : Offset} {n : Nat} (h : x.toNat + n < 2 ^ 64) : (x + BitVec.ofNat 64 n).toNat = x.toNat + n := by
  have h64 : 2 ^ Config.AW = 2 ^ 64 := rfl
  rw [BitVec.toNat_add, BitVec.toNat_ofNat, h64, Nat.mod_eq_of_lt (by omega : n < 2 ^ 64), Nat.mod_eq_of_lt h]

/-- An offset is below 2^64 (R23 to R25). -/
theorem offset_lt (x : Offset) : x.toNat < 2 ^ 64 := x.isLt

/-- A scan that finds a position: a candidate, with none below it (R143, R144). -/
theorem scan_some {w : Window} {n i : Nat} (h : scan w n = some i) :
    i + 376 < n ∧ triple w i = true ∧ ∀ j, j < i → triple w j = false := by
  rw [scan, List.find?_range_eq_some] at h
  obtain ⟨h1, h2, h3⟩ := h
  simp only [Config.SPAN, Config.PKT, List.mem_range] at h2
  exact ⟨by omega, h1, fun j hj => by simpa using h3 j hj⟩

/-- A scan that finds none (R143). -/
theorem scan_none {w : Window} {n : Nat} (h : scan w n = none) : ∀ i, i + 376 < n → triple w i = false := by
  intro i hi
  rw [scan, List.find?_eq_none] at h
  simpa using h i (by simp only [List.mem_range, Config.SPAN, Config.PKT]; omega)

end Sys2Proof.Machine
end

