-- ==== Sys2Proof/Laws/PerInstr.lean ====
section
/-! SUPPORT. One family of lemmas over the constructors of `Instr`: the word of a row's own encoding meets the mask and match that
spec/opcode_table.json gives the row (30_encoding.md R87, R89, R98, R100). -/

namespace Sys2Proof.Laws.RowMatch

open Sys2Proof.Machine

/-- The table word of a row's encoding: H of R87, the lead byte, or T of the note of SYNC_TRIPLE. -/
def word (i : Instr) : BitVec 32 :=
  let b (k : Nat) : Byte := (encode i).getD k 0
  match i.format with
  | .tshdr => headerWord (b 0) (b 1) (b 2) (b 3)
  | .lead => headerWord 0 0 0 (b 0)
  | .win3 k => headerWord 0 (b k) (b (k + Config.PKT)) (b (k + Config.SPAN))

/-- The table's mask of a row. -/
def mask : Instr → BitVec 32
  | .passClear _ => 0xFF0000C0#32
  | .passRsvd _ => 0xFF0000C0#32
  | .descNoaf _ => 0xFF0000A0#32
  | .descAf _ _ => 0xFF0000A0#32
  | .reject _ => 0x00000000#32
  | .syncTriple _ => 0x00FFFFFF#32
  | .leadOk => 0x000000FF#32
  | .leadLoss _ => 0x00000000#32

/-- The table's match of a row. -/
def pattern : Instr → BitVec 32
  | .passClear _ => 0x47000000#32
  | .passRsvd _ => 0x47000040#32
  | .descNoaf _ => 0x47000080#32
  | .descAf _ _ => 0x470000A0#32
  | .reject _ => 0x00000000#32
  | .syncTriple _ => 0x00474747#32
  | .leadOk => 0x00000047#32
  | .leadLoss _ => 0x00000000#32

/-- The row of `i` matches the encoding of `i`, and a fallback row's encoding does not match the row above it. -/
def Statement (i : Instr) : Prop :=
  i.wf = true → word i &&& mask i = pattern i ∧ (mask i = 0#32 → (encode i).getD 0 0 ≠ Config.SYNC)

/-- A header with the sync byte, under a mask that looks at bytes 0 and 3 only. -/
theorem headerWord_match {b1 b2 b3 m3 n3 : Byte} (h : b3 &&& m3 = n3) :
    headerWord 0x47#8 b1 b2 b3 &&& headerWord 0xFF#8 0#8 0#8 m3 = headerWord 0x47#8 0#8 0#8 n3 := by
  subst h
  refine (BitVec.and_append (x₁ := 0x47#8 ++ b1 ++ b2) (y₁ := b3)).trans (congrArg (· ++ (b3 &&& m3)) ?_)
  refine (BitVec.and_append (x₁ := 0x47#8 ++ b1) (y₁ := b2)).trans ?_
  rw [BitVec.and_append, BitVec.and_zero, BitVec.and_zero]
  rfl

/-- Byte 3 of a pass row under its mask. -/
theorem byte3_sc : ∀ (sc : BitVec 2) (af : Bool) (lo : BitVec 5),
    (sc ++ BitVec.ofBool af ++ lo : Byte) &&& 0xC0#8 = sc ++ 0#6 := by decide

/-- Byte 3 of a scrambled row under its mask. -/
theorem byte3_af : ∀ (parity af : Bool) (lo : BitVec 5),
    (scScrambled parity ++ BitVec.ofBool af ++ lo : Byte) &&& 0xA0#8 = 2#2 ++ BitVec.ofBool af ++ 0#5 := by decide

theorem passClear (h : PassHeader) : Statement (.passClear h) := fun _ =>
  ⟨headerWord_match (m3 := 0xC0#8) (n3 := 0x00#8) (byte3_sc 0#2 h.af h.rest.b3lo), by simp [mask]⟩

theorem passRsvd (h : PassHeader) : Statement (.passRsvd h) := fun _ =>
  ⟨headerWord_match (m3 := 0xC0#8) (n3 := 0x40#8) (byte3_sc 1#2 h.af h.rest.b3lo), by simp [mask]⟩

theorem descNoaf (h : DescHeader) : Statement (.descNoaf h) := fun _ =>
  ⟨headerWord_match (m3 := 0xA0#8) (n3 := 0x80#8) (byte3_af h.parity false h.rest.b3lo), by simp [mask]⟩

theorem descAf (h : DescHeader) (afLen : Byte) : Statement (.descAf h afLen) := fun _ =>
  ⟨headerWord_match (m3 := 0xA0#8) (n3 := 0xA0#8) (byte3_af h.parity true h.rest.b3lo), by simp [mask]⟩

theorem reject (h : RejectHeader) : Statement (.reject h) := fun hw =>
  ⟨by simp [mask, pattern], fun _ => by simpa [Instr.wf, encode] using hw⟩

/-- The three bytes of a triple's own encoding. -/
theorem encodeTriple_sync {i t : Nat} (ht : t = i ∨ t = i + Config.PKT ∨ t = i + Config.SPAN) :
    (encodeTriple i).getD t 0 = Config.SYNC := by
  have hlt : t < i + Config.SPAN + 1 := by simp only [Config.PKT, Config.SPAN] at *; omega
  unfold encodeTriple
  rw [getD_map_range _ hlt, if_pos ht]

theorem syncTriple (i : Nat) : Statement (.syncTriple i) := by
  intro _
  refine ⟨?_, by simp [mask]⟩
  have hw : word (.syncTriple i) = headerWord 0 ((encodeTriple i).getD i 0) ((encodeTriple i).getD (i + Config.PKT) 0)
      ((encodeTriple i).getD (i + Config.SPAN) 0) := rfl
  rw [hw, encodeTriple_sync (.inl rfl), encodeTriple_sync (.inr (.inl rfl)), encodeTriple_sync (.inr (.inr rfl))]
  simp only [mask, pattern]
  decide

theorem leadOk : Statement .leadOk := fun _ => ⟨rfl, by simp [mask]⟩

theorem leadLoss (lead : Byte) : Statement (.leadLoss lead) := fun hw =>
  ⟨by simp [mask, pattern], fun _ => by simpa [Instr.wf, encode] using hw⟩

end Sys2Proof.Laws.RowMatch
end

