-- ==== Sys2Proof/Laws/Steps.lean ====
section
/-! SUPPORT. What one step can do, said once: `CoreCase s t` lists every way the core goes from `s` to `t` (42_driver.md R162, R163,
R166, R171), and `coreStep` answers next exactly there; `HostCase` the same for a host act. -/

namespace Sys2Proof.Machine

/-- The bytes a window read at CURSOR brings (R53, R141). -/
def windowBytes (s : State) : List Byte := s.src.readBytes s.cursor.toNat (min 1024 (s.srcLen.toNat - s.cursor.toNat))

/-- The bytes a packet read at CURSOR brings when 188 remain (R53, R168). -/
def packetBytes (s : State) : List Byte := s.src.readBytes s.cursor.toNat 188

/-- The state of an attempt whose window has been read (R163). -/
def searched (s : State) : State := (s.afterRead s.cursor 1024).fillWindow (windowBytes s)

/-- The state of a locked step whose packet has been read (R166). -/
def fetched (s : State) : State := (s.afterRead s.cursor 188).fillPacket (packetBytes s)

/-- An attempt whose window has been read differs from the state before it in the draws, the trace and the window. -/
theorem searched_eq (s : State) :
    searched s = { s with
      ioDraws := s.ioDraws.tail, trace := s.trace ++ [.read s.cursor 1024 (s.readAnswer s.cursor 1024)],
      w := (searched s).w, wlen := (searched s).wlen, freeCount := s.freeCount + 1 } := by
  unfold searched
  rw [fillWindow_eq, afterRead_eq]

/-- WLEN is the number of bytes the read brought (R141). -/
theorem searched_wlen (s : State) : (searched s).wlen.toNat = min 1024 (s.srcLen.toNat - s.cursor.toNat) := by
  rw [searched, wlen_fillWindow _ _ (by simp [windowBytes])]
  simp [windowBytes]

/-- Window byte `k` is the source byte at `CURSOR + k` (R141). -/
theorem searched_byte (s : State) {k : Nat} (h : k < min 1024 (s.srcLen.toNat - s.cursor.toNat)) :
    byteAt (searched s).w k = s.src.read (s.cursor.toNat + k) := by
  rw [searched, byteAt_fillWindow _ _ (by omega) (by simpa [windowBytes] using h), windowBytes,
    Memory.readBytes_getD _ _ _ h]

/-- A triple of the window is a triple of the source (R142). -/
theorem searched_triple (s : State) {i : Nat} (h : i + 376 < min 1024 (s.srcLen.toNat - s.cursor.toNat)) :
    triple (searched s).w i = true ↔ sourceTriple s.src (s.cursor.toNat + i) := by
  rw [triple_iff]
  unfold sourceTriple
  simp only [Config.PKT, Config.SPAN]
  rw [searched_byte _ (by omega), searched_byte _ (by omega), searched_byte _ (by omega)]
  simp [Nat.add_assoc]

/-- A locked step whose packet has been read differs in the draws, the trace and P. -/
theorem fetched_eq (s : State) :
    fetched s = { s with
      ioDraws := s.ioDraws.tail, trace := s.trace ++ [.read s.cursor 188 (s.readAnswer s.cursor 188)],
      p := packetAt s.src s.cursor.toNat } := rfl

/-- A failed attempt counts, and exhausts the search at the tenth (R146, R147). -/
theorem searchMiss_eq (s : State) :
    searchMiss s = if s.retry + 1 = 10#4 then
      { s with retry := s.retry + 1, drvState := .failed, failCause := .syncExhausted,
               events := s.events ++ [.syncExhausted s.cursor] }
    else { s with retry := s.retry + 1 } := by
  by_cases h : s.retry + 1 = 10#4
  · rw [if_pos h]
    exact if_pos h
  · rw [if_neg h]
    exact if_neg h

/-- RETRY + 1 counts without wrap while a search goes on (R26, R27). -/
theorem retry_succ {s : State} (h : s.retry.toNat ≤ 9) : (s.retry + 1).toNat = s.retry.toNat + 1 := by
  rw [BitVec.toNat_add]
  simp
  omega

/-- The tenth miss (R147). -/
theorem retry_succ_ten {s : State} (h : s.retry.toNat ≤ 9) : s.retry + 1 = 10#4 ↔ s.retry.toNat + 1 = 10 := by
  rw [← retry_succ h]
  constructor
  · intro h
    rw [h]
    rfl
  · intro h
    exact BitVec.eq_of_toNat_eq h

/-- An offset plus 188 without wrap (R26). -/
theorem offset_add_188 {x : Offset} (h : x.toNat + 188 < 2 ^ 64) : (x + 188#64).toNat = x.toNat + 188 := offset_add h

/-- The lead byte of the packet that was read (R168). -/
theorem fetched_lead (s : State) : byteAt (fetched s).p 0 = s.src.read s.cursor.toNat := by
  rw [fetched_eq]
  show byteAt (packetAt s.src s.cursor.toNat) 0 = _
  rw [packetAt, byteAt_ofList _ (by decide), Memory.readBytes_getD _ _ _ (by decide), Nat.add_zero]

/-- The accepted position is the least candidate of the source (R143, R148). -/
theorem searched_scan_some {s : State} (hl : s.len = s.srcLen) {i : Nat}
    (h : scan (searched s).w (searched s).wlen.toNat = some i) :
    searchCandidate s.src s.len.toNat s.cursor.toNat i ∧
      ∀ j, j < i → ¬ searchCandidate s.src s.len.toNat s.cursor.toNat j := by
  obtain ⟨b1, b2, b3⟩ := scan_some h
  rw [searched_wlen] at b1
  unfold searchCandidate
  rw [hl]
  refine ⟨⟨b1, (searched_triple s b1).mp b2⟩, fun j hj ⟨c1, c2⟩ => ?_⟩
  have := (searched_triple s c1).mpr c2
  rw [b3 j hj] at this
  cases this

/-- No accepted position: no candidate in the source (R143, R148). -/
theorem searched_scan_none {s : State} (hl : s.len = s.srcLen) (h : scan (searched s).w (searched s).wlen.toNat = none) (j : Nat) :
    ¬ searchCandidate s.src s.len.toNat s.cursor.toNat j := by
  unfold searchCandidate
  rw [hl]
  rintro ⟨c1, c2⟩
  have := scan_none h j (by rw [searched_wlen]; exact c1)
  rw [(searched_triple s c1).mpr c2] at this
  cases this

/-- STEP_INIT's state with a length (R162). -/
theorem initOk_eq (s : State) :
    ((((s.afterSrcLen.setLen s.srcLen).setCursor 0).setBytesWritten 0).setRetry 0).setDrvState .searching = { s with
      ioDraws := s.ioDraws.tail, trace := s.trace ++ [.len s.srcLenAnswer], len := s.srcLen, cursor := 0, bytesWritten := 0,
      retry := 0, drvState := .searching } := by
  simp only [afterSrcLen_eq, State.setLen, State.setCursor, State.setBytesWritten, State.setRetry, State.setDrvState]

/-- Every way the core goes on from a state. -/
inductive CoreCase (s : State) : State → Prop where
  /-- no step is enabled, nothing changes (R171, U13) -/
  | waits (h : (s.drvState = .init ∧ s.started = false) ∨ s.drvState = .done ∨ s.drvState = .failed) : CoreCase s s
  /-- STEP_INIT with a length (R162) -/
  | initOk (hd : s.drvState = .init) (hs : s.started = true) (hok : s.nextStatus = .ok) :
      CoreCase s (((((s.afterSrcLen.setLen s.srcLen).setCursor 0).setBytesWritten 0).setRetry 0).setDrvState .searching)
  /-- STEP_INIT without one (R162, R197) -/
  | initErr (hd : s.drvState = .init) (hs : s.started = true) (herr : s.nextStatus = .err) :
      CoreCase s (s.afterSrcLen.enterFailed .srcIo (.srcIoError 0))
  /-- a window read fails (R163, R197) -/
  | searchErr (hd : s.drvState = .searching) (ha : s.cursor.toNat ≤ s.srcLen.toNat) (herr : s.nextStatus = .err) :
      CoreCase s ((s.afterRead s.cursor 1024).loseWindow.enterFailed .srcIo (.srcIoError s.cursor))
  /-- a triple is found (R145, R164) -/
  | searchHit (hd : s.drvState = .searching) (ha : s.cursor.toNat ≤ s.srcLen.toNat) (hok : s.nextStatus = .ok) (i : Nat)
      (hscan : scan (searched s).w (searched s).wlen.toNat = some i) : CoreCase s ((searched s).lockAt i)
  /-- none is found (R146, R147) -/
  | searchNone (hd : s.drvState = .searching) (ha : s.cursor.toNat ≤ s.srcLen.toNat) (hok : s.nextStatus = .ok)
      (hscan : scan (searched s).w (searched s).wlen.toNat = none) : CoreCase s (searchMiss (searched s))
  /-- the end of the stream (R167) -/
  | streamEnd (hd : s.drvState = .locked) (hlen : s.len.toNat - s.cursor.toNat < 188) : CoreCase s (s.setDrvState .done)
  /-- a packet read fails (R166, R197) -/
  | packetErr (hd : s.drvState = .locked) (hlen : 188 ≤ s.len.toNat - s.cursor.toNat)
      (ha : s.cursor.toNat ≤ s.srcLen.toNat) (herr : s.nextStatus = .err) :
      CoreCase s ((s.afterRead s.cursor 188).losePacket.enterFailed .srcIo (.srcIoError s.cursor))
  /-- LEAD_OK: a packet is consumed, or its append fails (R169, R198) -/
  | packetOk (hd : s.drvState = .locked) (hlen : 188 ≤ s.len.toNat - s.cursor.toNat) (hok : s.nextStatus = .ok)
      (hfit : s.cursor.toNat + 188 ≤ s.srcLen.toNat) (hlead : s.src.read s.cursor.toNat = Config.SYNC) :
      CoreCase s (appendPacket ((fetched s).deliver (decrypt (fetched s).p s.key)))
  /-- LEAD_LOSS: sync is lost (R170) -/
  | packetLoss (hd : s.drvState = .locked) (hlen : 188 ≤ s.len.toNat - s.cursor.toNat) (hok : s.nextStatus = .ok)
      (hfit : s.cursor.toNat + 188 ≤ s.srcLen.toNat) (hlead : s.src.read s.cursor.toNat ≠ Config.SYNC) :
      CoreCase s (fetched s).enterRecovery

/-- The meaning of LEAD_OK is a delivery and an append (R169). -/
theorem execLeadOk_eq (s : State) : execLeadOk s = .next (appendPacket (s.deliver (decrypt s.p s.key))) := by
  rw [execLeadOk, runClass_classOf]

theorem packetBytes_lead (s : State) : (packetBytes s).getD 0 0 = s.src.read s.cursor.toNat := by
  rw [packetBytes, Memory.readBytes_getD _ _ _ (by omega), Nat.add_zero]

/-- A locked step that has read a whole packet runs the lead byte's pattern. -/
theorem stepLocked_read (s : State) (hlen : 188 ≤ s.len.toNat - s.cursor.toNat) (hok : s.nextStatus = .ok)
    (hfit : s.cursor.toNat + 188 ≤ s.srcLen.toNat) :
    stepLocked s = exec (leadOf (s.src.read s.cursor.toNat)) (fetched s) := by
  have hm : min 188 (s.srcLen.toNat - s.cursor.toNat) = 188 := by omega
  simp only [stepLocked, Config.PKT, memRead_inside s s.cursor 188 (by omega), readAnswer_ok s _ _ hok, hm,
    Memory.readBytes_length, if_neg (show ¬ s.len.toNat - s.cursor.toNat < 188 by omega), if_true]
  rw [← packetBytes_lead]; rfl

/-- A search step that has read its window scans it. -/
theorem stepSearch_read (s : State) (ha : s.cursor.toNat ≤ s.srcLen.toNat) (hok : s.nextStatus = .ok) :
    stepSearch s = searchWindow (searched s) := by
  simp only [stepSearch, Config.WIN, memRead_inside s s.cursor 1024 ha, readAnswer_ok s _ _ hok]
  rfl

theorem searchWindow_some {s : State} {i : Nat} (h : scan s.w s.wlen.toNat = some i) : searchWindow s = .next (s.lockAt i) := by
  unfold searchWindow
  rw [h]
  rfl

theorem searchWindow_none {s : State} (h : scan s.w s.wlen.toNat = none) : searchWindow s = .next (searchMiss s) := by
  unfold searchWindow
  rw [h]

/-- The core goes on exactly in the ways of `CoreCase`. -/
theorem coreStep_iff (s t : State) : coreStep s = .next t ↔ CoreCase s t := by
  constructor
  · intro h
    unfold coreStep at h
    split at h
    · rename_i hd
      split at h
      · rename_i hs
        rcases ok_or_err s.nextStatus with hok | herr
        · simp only [stepInit, srcLenAnswer_ok s hok, Host.Outcome.next.injEq] at h
          subst h
          exact .initOk hd hs hok
        · simp only [stepInit, srcLenAnswer_err s herr, Host.Outcome.next.injEq] at h
          subst h
          exact .initErr hd hs herr
      · rename_i hs
        cases h
        exact .waits (.inl ⟨hd, by simpa using hs⟩)
    · rename_i hd
      by_cases ha : s.cursor.toNat ≤ s.srcLen.toNat
      · rcases ok_or_err s.nextStatus with hok | herr
        · rw [stepSearch_read s ha hok] at h
          cases hscan : scan (searched s).w (searched s).wlen.toNat with
          | none =>
            rw [searchWindow_none hscan, Host.Outcome.next.injEq] at h
            subst h
            exact .searchNone hd ha hok hscan
          | some i =>
            rw [searchWindow_some hscan, Host.Outcome.next.injEq] at h
            subst h
            exact .searchHit hd ha hok i hscan
        · simp only [stepSearch, Config.WIN, memRead_inside s s.cursor 1024 ha, readAnswer_err s _ _ herr,
            Host.Outcome.next.injEq] at h
          subst h
          exact .searchErr hd ha herr
      · simp [stepSearch, State.memRead, show s.srcLen.toNat < s.cursor.toNat by omega] at h
    · rename_i hd
      by_cases hlen : s.len.toNat - s.cursor.toNat < 188
      · simp only [stepLocked, Config.PKT, hlen, if_true, Host.Outcome.next.injEq] at h
        subst h
        exact .streamEnd hd hlen
      · by_cases ha : s.cursor.toNat ≤ s.srcLen.toNat
        · rcases ok_or_err s.nextStatus with hok | herr
          · by_cases hfit : s.cursor.toNat + 188 ≤ s.srcLen.toNat
            · rw [stepLocked_read s (by omega) hok hfit, leadOf] at h
              split at h
              · rename_i hlead
                rw [exec, execLeadOk_eq] at h
                cases h
                exact .packetOk hd (by omega) hok hfit hlead
              · rename_i hlead
                cases h
                exact .packetLoss hd (by omega) hok hfit hlead
            · simp only [stepLocked, Config.PKT, if_neg hlen, memRead_inside s s.cursor 188 ha, readAnswer_ok s _ _ hok,
                Memory.readBytes_length] at h
              rw [if_neg (by omega)] at h
              cases h
          · simp only [stepLocked, Config.PKT, if_neg hlen, memRead_inside s s.cursor 188 ha, readAnswer_err s _ _ herr,
              Host.Outcome.next.injEq] at h
            subst h
            exact .packetErr hd (by omega) ha herr
        · simp [stepLocked, hlen, State.memRead, show s.srcLen.toNat < s.cursor.toNat by omega] at h
    · cases h
      exact .waits (.inr (.inl ‹_›))
    · cases h
      exact .waits (.inr (.inr ‹_›))
  · intro h
    cases h with
    | waits h => rcases h with ⟨h, hs⟩ | h | h <;> simp [coreStep, *]
    | initOk hd hs hok => simp [coreStep, hd, hs, stepInit, srcLenAnswer_ok s hok]
    | initErr hd hs herr => simp [coreStep, hd, hs, stepInit, srcLenAnswer_err s herr]
    | searchErr hd ha herr =>
      simp only [coreStep, hd, stepSearch, Config.WIN, memRead_inside s s.cursor 1024 ha, readAnswer_err s _ _ herr]
    | searchHit hd ha hok i hscan =>
      simp only [coreStep, hd]
      rw [stepSearch_read s ha hok, searchWindow_some hscan]
    | searchNone hd ha hok hscan =>
      simp only [coreStep, hd]
      rw [stepSearch_read s ha hok, searchWindow_none hscan]
    | streamEnd hd hlen => simp only [coreStep, hd, stepLocked, Config.PKT, hlen, if_true]
    | packetErr hd hlen ha herr =>
      simp only [coreStep, hd, stepLocked, Config.PKT, if_neg (show ¬ s.len.toNat - s.cursor.toNat < 188 by omega),
        memRead_inside s s.cursor 188 ha, readAnswer_err s _ _ herr]
    | packetOk hd hlen hok hfit hlead =>
      simp only [coreStep, hd, stepLocked_read s hlen hok hfit, leadOf, hlead, if_true, exec, execLeadOk_eq]
      rfl
    | packetLoss hd hlen hok hfit hlead =>
      simp only [coreStep, hd, stepLocked_read s hlen hok hfit, leadOf, hlead, if_false, exec, execLeadLoss]

/-- Every way a host act goes on. -/
inductive HostCase (s : State) : HostAct → State → Prop where
  | idle {t : State} (h : CoreCase s t) : HostCase s .idle t
  | rst : HostCase s .rst (resetStep s)
  | start (k : Block) : HostCase s (.start k) (startStep k s)
  | attach (l : List Byte) (hrun : runGoesOn s = false) (hlen : l.length < 2 ^ 64) :
      HostCase s (.attach l) (s.setSource (Memory.ofBytes l) (BitVec.ofNat 64 l.length))

theorem hostStep_iff (a : HostAct) (s t : State) : hostStep a s = .next t ↔ HostCase s a t := by
  constructor
  · intro h
    cases a with
    | idle => exact .idle ((coreStep_iff s t).mp h)
    | rst => cases h; exact .rst
    | start k => cases h; exact .start k
    | attach l =>
      simp only [hostStep, attachStep] at h
      split at h
      · cases h
      · split at h
        · cases h
        · cases h
          exact .attach l (by simpa using ‹¬ runGoesOn s = true›) (by simp only [Config.AW] at *; omega)
  · intro h
    cases h with
    | idle h => exact (coreStep_iff s t).mpr h
    | rst => rfl
    | start k => rfl
    | attach l hrun hlen => simp [hostStep, attachStep, hrun, hlen]

/-- One step with no host act to come is the core's. -/
theorem step_quiet (s : State) (h : s.host = []) : step s = coreStep s := by simp [step, machineStep, h]

/-- One step with a host act to come is that act's. -/
theorem step_act (s : State) (a : HostAct) (rest : List HostAct) (h : s.host = a :: rest) :
    step s = hostStep a (s.setHost rest) := by simp [step, machineStep, h]

/-- Every way a step goes on: the core's, or a host act's on the state without that act. -/
theorem step_iff (s t : State) : step s = .next t ↔
    (s.host = [] ∧ CoreCase s t) ∨ ∃ a rest, s.host = a :: rest ∧ HostCase (s.setHost rest) a t := by
  cases h : s.host with
  | nil => rw [step_quiet s h, coreStep_iff]; simp
  | cons a rest => rw [step_act s a rest h, hostStep_iff]; simp

end Sys2Proof.Machine
end

