-- ==== Sys2Proof/Tests/Slice0.lean ====
section
/-! SUPPORT. Tests on single steps and single packets, and one named witness for each obligation that has hypotheses. Expected
values come from 95_test_vectors.md or from the cited rule's own text. -/

namespace Sys2Proof.Tests

open Sys2Proof.Machine

/-! ### Helpers -/

/-- The outcome is a next state of which `P` holds. -/
def nextHas (o : Host.Outcome State Fault Refusal) (P : State → Bool) : Bool :=
  match o with
  | .next t => P t
  | .fault _ => false
  | .refused _ => false

theorem exists_of_nextHas {o : Host.Outcome State Fault Refusal} {P : State → Bool} (h : nextHas o P = true) :
    ∃ t, o = .next t ∧ P t = true := by
  cases o with
  | next t => exact ⟨t, rfl, h⟩
  | fault f => cases h
  | refused r => cases h

/-- `ramp(r)` of R102: byte `t` is `(t + r) mod 256`. -/
def rampByte (r t : Nat) : Byte := BitVec.ofNat 8 (t + r)

/-- `PKT(hdr ; ramp(r))` and `PKT(hdr ; L ; ramp(r))` of R102. -/
def pkt (hdr : List Byte) (r : Nat) : Packet :=
  tabulate 188 fun t => if t < hdr.length then hdr.getD t 0 else rampByte r t

/-- K0 of 95_test_vectors.md section 2. -/
def k0 : Key := tabulate 16 fun j => BitVec.ofNat 8 j

/-- The toy cipher TX. -/
def tx (c : Block) (k : Key) : Block := xor16 c k

/-- The toy cipher TR, and its inverse TR_E. -/
def tr (c : Block) (k : Key) : Block := tabulate 16 fun j => byteAt c ((j + 1) % 16) ^^^ byteAt k j
def trE (p : Block) (k : Key) : Block := tabulate 16 fun j => byteAt p ((j + 15) % 16) ^^^ byteAt k ((j + 15) % 16)

/-- `A[a..b)`. -/
def cut (p : Packet) (a n : Nat) : List Byte := (p.toList.drop a).take n

/-- Three sync bytes from offset `a` on. -/
def lead3 (a : Nat) : Memory := { cells := [(a, 0x47), (a + 188, 0x47), (a + 376, 0x47)] }

/-- A started core in INIT, with a source of 377 bytes that locks at 0. -/
def stInit : State := { State.reset with started := true, src := lead3 0, srcLen := 377 }
def stSearch : State := { stInit with drvState := .searching, len := 377 }
def stLocked : State := { stSearch with drvState := .locked }
/-- SEARCHING in a source without a sync byte. -/
def stEmpty : State := { stSearch with src := { cells := [] } }
/-- LOCKED on a bad byte, with a triple one byte later. -/
def stBad : State := { stLocked with src := lead3 1, srcLen := 378, len := 378 }
def stDone : State := { stLocked with drvState := .done, cursor := 190 }

theorem stInit_inv : Inv stInit := by constructor <;> decide
theorem stSearch_inv : Inv stSearch := by constructor <;> decide
theorem stLocked_inv : Inv stLocked := by constructor <;> decide
theorem stEmpty_inv : Inv stEmpty := by constructor <;> decide
theorem stBad_inv : Inv stBad := by constructor <;> decide
theorem stDone_inv : Inv stDone := by constructor <;> decide

/-! ### Well-formedness: each check refuses an ill-formed term -/

theorem test_wf_reject_sync : (Instr.reject { b0 := 0x47, b1 := 0, b2 := 0, b3 := 0 }).wf = false := by decide
theorem test_wf_leadLoss_sync : (Instr.leadLoss 0x47).wf = false := by decide
theorem test_wf_triple_outside : (Instr.syncTriple 648).wf = false := by decide
theorem test_wf_triple_last : (Instr.syncTriple 647).wf = true := by decide

/-! ### Decoding: words written out from R81, R89, R98, R100 -/

/-- DV2's header. -/
theorem test_decode_passClear : decode .tshdr [0b01000111, 0b01000000, 0b00010001, 0b00010000] =
    .ok (.passClear { pusi := true, af := false, rest := { b1hi := 0, b1lo := 0, b2 := 0x11, b3lo := 0x10 } }) := by decide
/-- DV3's header. -/
theorem test_decode_passRsvd : decode .tshdr [0b01000111, 0b00000000, 0b00010001, 0b01010000] =
    .ok (.passRsvd { pusi := false, af := false, rest := { b1hi := 0, b1lo := 0, b2 := 0x11, b3lo := 0x10 } }) := by decide
/-- DV4's header. -/
theorem test_decode_descNoaf : decode .tshdr [0b01000111, 0b01000000, 0b00010001, 0b10010000] =
    .ok (.descNoaf { pusi := true, parity := false, rest := { b1hi := 0, b1lo := 0, b2 := 0x11, b3lo := 0x10 } }) := by decide
/-- DV5's header. -/
theorem test_decode_descAf : decode .tshdr [0b01000111, 0b00000000, 0b00010001, 0b11110000, 0b00000111] =
    .ok (.descAf { pusi := false, parity := true, rest := { b1hi := 0, b1lo := 0, b2 := 0x11, b3lo := 0x10 } } 7) := by decide
/-- DV1's header. -/
theorem test_decode_reject : decode .tshdr [0b01001000, 0b00000000, 0b00000000, 0b10010000] =
    .ok (.reject { b0 := 0x48, b1 := 0, b2 := 0, b3 := 0x90 }) := by decide
theorem test_decode_leadOk : decode .lead [0b01000111] = .ok .leadOk := by decide
theorem test_decode_leadLoss : decode .lead [0b00110011] = .ok (.leadLoss 0x33) := by decide
/-- SV5: 0x47 at 0, 188, 376 of 377 bytes. -/
theorem test_decode_syncTriple : decode (.win3 0) ((lead3 0).readBytes 0 377) = .ok (.syncTriple 0) := by decide +kernel
/-- SV6: 376 bytes hold no position. -/
theorem test_decode_outside : decode (.win3 0) ((lead3 0).readBytes 0 376) = .error .outsideWindow := by decide +kernel
/-- A scrambled header with af = 1 needs its fifth byte (R86). -/
theorem test_decode_short : decode .tshdr [0x47, 0x00, 0x11, 0xB0] = .error .shortHeader := by decide

theorem test_table_passClear : decodeTableWord 32 0x47001110 =
    some (.passClear { pusi := false, af := false, rest := { b1hi := 0, b1lo := 0, b2 := 0x11, b3lo := 0x10 } }) := by decide
theorem test_table_descAf : decodeTableWord 32 0x470011B0 =
    some (.descAf { pusi := false, parity := false, rest := { b1hi := 0, b1lo := 0, b2 := 0x11, b3lo := 0x10 } } 0) := by decide
theorem test_table_syncTriple : decodeTableWord 24 0x474747 = some (.syncTriple 0) := by decide +kernel
theorem test_table_noTriple : decodeTableWord 24 0x474746 = none := by decide +kernel
theorem test_table_leads : decodeTableWord 8 0x47 = some .leadOk ∧ decodeTableWord 8 0x00 = some (.leadLoss 0) := by decide

/-! ### A placed word is what the next step runs -/

/-- A TSHDR word runs inside LEAD_OK: PASS_RSVD's flag, one append. -/
theorem test_fetch_passRsvd : nextHas (step (State.reset.withFetchWord 32 0x47001150)) (fun t =>
    t.rsvd && t.drvState == .locked && t.cursor == 188 && t.snkLen == 188 && byteAt t.o 3 == 0x50) = true := by decide +kernel
/-- DESC_AF with L = 0 (the bits above the word): scrambled, eleven cipher calls between the read and the write. -/
theorem test_fetch_descAf : nextHas (step (State.reset.withFetchWord 32 0x470011B0)) (fun t =>
    t.wasScr && t.trace.length == 13 && t.snkLen == 188) = true := by decide +kernel
theorem test_fetch_leadLoss : nextHas (step (State.reset.withFetchWord 8 0x33)) (fun t =>
    t.drvState == .searching && t.events == [.syncLoss 0] && t.snkLen == 0) = true := by decide +kernel
theorem test_fetch_leadOk : nextHas (step (State.reset.withFetchWord 8 0x47)) (fun t =>
    t.drvState == .locked && t.bytesWritten == 188) = true := by decide +kernel
theorem test_fetch_syncTriple : nextHas (step (State.reset.withFetchWord 24 0x474747)) (fun t =>
    t.drvState == .locked && t.cursor == 0 && t.retry == 0) = true := by decide +kernel

/-! ### Operands -/

/-- DV14's spot values. -/
theorem test_operands :
    [0, 7, 8, 23, 166, 167, 168, 183, 184, 255].map
      (fun l : Byte => (psAf l, roundsOf (psAf l), tailOf (psAf l))) =
    [(5, 11, 7), (12, 11, 0), (13, 10, 15), (28, 10, 0), (171, 1, 1), (172, 1, 0), (173, 0, 15), (188, 0, 0), (188, 0, 0),
     (188, 0, 0)] := by decide

/-! ### Packets: vectors DV1 to DV12 -/

def dv1 : Packet := tabulate 188 fun t => ([0x48, 0x00, 0x00, 0x90] : List Byte).getD t 0xAA
def dv2 : Packet := pkt [0x47, 0x40, 0x11, 0x10] 0
def dv3 : Packet := pkt [0x47, 0x00, 0x11, 0x50] 32
def dv4 : Packet := pkt [0x47, 0x40, 0x11, 0x90] 0
def dv5 : Packet := pkt [0x47, 0x00, 0x11, 0xF0, 0x07] 16
def dv7 : Packet := pkt [0x47, 0x00, 0x11, 0xB0, 0xA7] 0
def dv8 : Packet := pkt [0x47, 0x40, 0x11, 0xB0, 0xA8] 0

theorem test_dv1_reject : let r := decryptWith tx true dv1 k0
    cut r.output 0 8 = [0x48, 0x00, 0x00, 0x90, 0xaa, 0xaa, 0xaa, 0xaa] ∧
    (r.flags, r.events) = ({ wasScr := false, rsvd := false, pesWarn := false }, [.notSync 0x48]) := by decide +kernel
theorem test_dv2_passClear : let r := decryptWith tx true dv2 k0
    cut r.output 0 8 = [0x47, 0x40, 0x11, 0x10, 0x04, 0x05, 0x06, 0x07] ∧
    (r.flags, r.events) = ({ wasScr := false, rsvd := false, pesWarn := false }, []) := by decide +kernel
theorem test_dv3_passRsvd : let r := decryptWith tx true dv3 k0
    cut r.output 0 8 = [0x47, 0x00, 0x11, 0x50, 0x24, 0x25, 0x26, 0x27] ∧
    (r.flags, r.events) = ({ wasScr := false, rsvd := true, pesWarn := false }, [.reservedSc 0x50]) := by decide +kernel
theorem test_dv4_start : cut (decryptWith tx true dv4 k0).output 0 36 =
    [0x47, 0x40, 0x11, 0x10, 0x04, 0x04, 0x04, 0x04, 0x0c, 0x0c, 0x0c, 0x0c, 0x04, 0x04, 0x04, 0x04,
      0x1c, 0x1c, 0x1c, 0x1c, 0x10, 0x11, 0x12, 0x13, 0x14, 0x15, 0x16, 0x17, 0x18, 0x19, 0x1a, 0x1b, 0x3c, 0x3d, 0x3e, 0x3f] := by
  decide +kernel
theorem test_dv4_flags : let r := decryptWith tx true dv4 k0
    r.flags = { wasScr := true, rsvd := false, pesWarn := true } ∧ r.calls.length = 11 := by decide +kernel
theorem test_dv5_dv7_descAf : cut (decryptWith tr true dv5 k0).output 0 32 =
    [0x47, 0x00, 0x11, 0x30, 0x07, 0x15, 0x16, 0x17, 0x18, 0x19, 0x1a, 0x1b, 0x1d, 0x1f, 0x1d, 0x23, 0x25,
      0x27, 0x25, 0x23, 0x2d, 0x2f, 0x2d, 0x23, 0x25, 0x27, 0x25, 0x13, 0x31, 0x32, 0x33, 0x2c] ∧
    cut (decryptWith tr true dv7 k0).output 172 16 =
    [0xad, 0xaf, 0xad, 0xb3, 0xb5, 0xb7, 0xb5, 0xb3, 0xbd, 0xbf, 0xbd, 0xb3, 0xb5, 0xb7, 0xb5, 0xa3] := by decide +kernel
theorem test_dv8_zeroRounds : let r := decryptWith tx true dv8 k0
    cut r.output 0 8 = [0x47, 0x40, 0x11, 0x30, 0xa8, 0x05, 0x06, 0x07] ∧
    r.flags = { wasScr := true, rsvd := false, pesWarn := false } ∧ r.calls = [] := by decide +kernel

/-! ### The scan and single steps: vectors SV and TS -/

/-- The positions of SV7, in a window of 400 bytes: a double is not enough. -/
theorem test_scan_least : scan (ofList 1024 (({ cells := [(3, 0x47), (10, 0x47), (191, 0x47), (198, 0x47), (386, 0x47)] } :
    Memory).readBytes 0 400)) 400 = some 10 := by decide +kernel
/-- TS2. -/
theorem test_ts2 : nextHas (step { stInit with ioRest := .err }) (fun t =>
    t.drvState == .failed && t.outExitStatus == 2 && t.events == [.srcIoError 0]) = true := by decide +kernel
/-- TS3. -/
theorem test_ts3 : step State.reset = .next State.reset := rfl
/-- TS10: 187 bytes left. -/
theorem test_ts10 : nextHas (step { stLocked with cursor := 190 }) (fun t =>
    t.drvState == .done && t.trace == [] && t.outExitStatus == 0) = true := by decide +kernel
/-- TS13: the append fails after the descrambling. -/
theorem test_ts13 : nextHas (step { stLocked with ioDraws := [.ok, .err] }) (fun t =>
    t.drvState == .failed && t.outExitStatus == 3 && t.cursor == 0 && t.snkLen == 0) = true := by decide +kernel
/-- TS17: start in LOCKED changes nothing. -/
theorem test_ts17 : step { stLocked with host := [.start k0] } = .next stLocked := rfl
/-- A window read outside the source is a fault of the model, in a state no run reaches. -/
theorem test_fault_beyond : step { stSearch with cursor := 378 } = .fault .readBeyondSource := rfl

/-! ### Witnesses: for each obligation with hypotheses, a concrete state and operands that meet them all -/

theorem witness_DecodeOfEncode : (Instr.syncTriple 647).wf = true ∧ (Instr.reject { b0 := 0x46, b1 := 0, b2 := 0, b3 := 0 }).wf = true ∧
    (Instr.leadLoss 0xFF).wf = true := by decide

theorem witness_EncodeOfDecoded : ∃ i, decode .tshdr [0x47, 0xFF, 0xFF, 0xFF, 0xFF] = .ok i := ⟨_, rfl⟩

/-- One packet for each clause of the class decode, each just inside it. -/
theorem witness_ClassIsDecidedInOrder :
    byteAt dv1 0 ≠ 0x47#8 ∧
    (byteAt dv2 0 = 0x47#8 ∧ byteAt dv2 3 &&& 0xC0#8 = 0x00#8) ∧
    (byteAt dv3 0 = 0x47#8 ∧ byteAt dv3 3 &&& 0xC0#8 = 0x40#8) ∧
    (byteAt dv4 0 = 0x47#8 ∧ byteAt dv4 3 &&& 0xC0#8 ≠ 0x00#8 ∧ byteAt dv4 3 &&& 0xC0#8 ≠ 0x40#8 ∧ byteAt dv4 3 &&& 0x20#8 = 0x00#8) ∧
    (byteAt dv5 0 = 0x47#8 ∧ byteAt dv5 3 &&& 0xC0#8 ≠ 0x00#8 ∧ byteAt dv5 3 &&& 0xC0#8 ≠ 0x40#8 ∧
      byteAt dv5 3 &&& 0x20#8 ≠ 0x00#8) := by decide +kernel

/-- DV4 with another PID byte. -/
theorem witness_UnnamedBits : ∃ p q : Packet, q ≠ p ∧
    byteAt q 0 = byteAt p 0 ∧ byteAt q 1 &&& 0x40#8 = byteAt p 1 &&& 0x40#8 ∧ byteAt q 3 &&& 0xE0#8 = byteAt p 3 &&& 0xE0#8 ∧
    byteAt q 4 = byteAt p 4 ∧ ∀ t, payloadStart p ≤ t → byteAt q t = byteAt p t := by
  have h2 : byteAt (putByte dv4 2 0x12) 2 ≠ byteAt dv4 2 := by decide +kernel
  refine ⟨dv4, putByte dv4 2 0x12, fun h => h2 (congrArg (byteAt · 2) h), by decide +kernel, by decide +kernel, by decide +kernel,
    by decide +kernel, fun t ht => ?_⟩
  have hps : payloadStart dv4 = 4 := by decide +kernel
  by_cases h : t < 188
  · rw [byteAt_putByte _ _ _ h, if_neg (by omega)]
  · rw [byteAt_packet_past _ (by omega), byteAt_packet_past _ (by omega)]

theorem witness_ParityBit : byteAt dv4 0 = 0x47#8 ∧ byteAt dv4 3 &&& 0x80#8 = 0x80#8 := by decide +kernel

/-- A packet the driver hands over. -/
theorem witness_RejectNeverAfterLeadOk : decode .lead dv4.toList = .ok .leadOk := by decide +kernel

/-- A window read and a packet read that a step issues. -/
theorem witness_ReadShapes :
    nextHas (step stEmpty) (fun t => t.trace.any fun x => match x with | .read a n _ => a == 0 && n == 1024 | _ => false) = true ∧
    nextHas (step stLocked) (fun t => t.trace.any fun x => match x with | .read a n _ => a == 0 && n == 188 | _ => false) = true := by
  decide +kernel

/-- The boundary lengths of R93's table. -/
theorem witness_PayloadStart : (7 : Byte).toNat ≤ 7 ∧ (8 ≤ (8 : Byte).toNat ∧ (8 : Byte).toNat ≤ 183) ∧
    (8 ≤ (183 : Byte).toNat ∧ (183 : Byte).toNat ≤ 183) ∧ 184 ≤ (184 : Byte).toNat := by decide

theorem witness_Regions : (4 ≤ 4 ∧ 4 ≤ 188 ∧ 187 < 188) ∧ 4 ≤ 188 ∧ 188 ≤ 188 := by decide

theorem witness_CbcChains : 4 ≤ 12 ∧ 12 ≤ 188 ∧ 10 < roundsOf 12 ∧ 15 < 16 ∧ 0 < roundsOf 172 := by decide

/-- The header region, and the tail, of a scrambled packet with blocks and of one without. -/
theorem witness_HeaderAndTail : isScrambled (classOf dv4) = true ∧ 2 < payloadStart dv4 ∧
    payloadStart dv4 + 16 * roundsOf (payloadStart dv4) ≤ 180 ∧ isScrambled (classOf dv8) = true ∧
    payloadStart dv8 + 16 * roundsOf (payloadStart dv8) ≤ 187 := by decide +kernel

theorem witness_CipherCalls : isScrambled (classOf dv7) = true ∧ isScrambled (classOf dv3) = false := by decide +kernel

theorem witness_PassThrough : isScrambled (classOf dv1) = false ∧ isScrambled (classOf dv2) = false := by decide +kernel

theorem witness_OutputAdvertises : classRow (classOf dv2) = 0 ∧ isScrambled (classOf dv5) = true ∧ classRow (classOf dv3) = 1 ∧
    classRow (classOf dv1) = 4 ∧ ∃ s t : State, s.snk.wf = true ∧ step s = .next t ∧ t.snkLen ≠ s.snkLen := by
  obtain ⟨t, h, hp⟩ := exists_of_nextHas (o := step stLocked) (P := fun t => t.snkLen != 0) (by decide +kernel)
  exact ⟨by decide +kernel, by decide +kernel, by decide +kernel, by decide +kernel, stLocked, t, by decide, h, by simpa [show stLocked.snkLen = 0 from rfl] using hp⟩

/-- Scrambling by R130's construction, block after block. -/
def scramble (e : Block → Key → Block) (key : Key) (ps : Nat) : Nat → Packet → Packet
  | 0, p => p
  | n + 1, p =>
    let r := scramble e key ps n p
    putBlock r (blockStart ps n) (e (xor16 (blockAt p (blockStart ps n)) (prevBlock r ps n)) key)

/-- Two blocks behind an adaptation field of 150 bytes, one tail byte. -/
def plain : Packet := pkt [0x47, 0x00, 0x11, 0x30, 150] 0
def scrambled : Packet := scramble trE k0 155 2 (putByte plain 3 0xB0)

theorem tr_trE (x : Block) (k : Key) : tr (trE x k) k = x := by
  apply bytes_ext
  intro j hj
  have hj : j < 16 := hj
  rw [tr, byteAt_tabulate _ hj, trE, byteAt_tabulate _ (Nat.mod_lt _ (by decide))]
  have h1 : ((j + 1) % 16 + 15) % 16 = j := by omega
  rw [h1, BitVec.xor_assoc, BitVec.xor_self, BitVec.xor_zero]

theorem scrambled_frame : ∀ t, t < 188 → (t < 155 ∨ 187 ≤ t) → t ≠ 3 → byteAt scrambled t = byteAt plain t := by
  intro t ht h h3
  have hb : ∀ n, blockStart 155 n = 155 + 16 * n := fun _ => rfl
  unfold scrambled
  rw [scramble, byteAt_putBlock_outside _ _ _ ht (by rw [hb]; omega), scramble,
    byteAt_putBlock_outside _ _ _ ht (by rw [hb]; omega), scramble, byteAt_putByte _ _ _ ht, if_neg h3]

theorem witness_RoundTrip : (∀ x k, tr (trE x k) k = x) ∧
    byteAt plain 0 = 0x47#8 ∧ byteAt plain 3 &&& 0xC0#8 = 0x00#8 ∧ byteAt scrambled 3 = byteAt plain 3 ||| 0x80#8 ∧
    (∀ t, t < payloadStart plain → t ≠ 3 → byteAt scrambled t = byteAt plain t) ∧
    (∀ t, payloadStart plain + 16 * roundsOf (payloadStart plain) ≤ t → t < 188 → byteAt scrambled t = byteAt plain t) ∧
    (∀ i, i < roundsOf (payloadStart plain) →
      blockAt scrambled (blockStart (payloadStart plain) i) =
        trE (xor16 (blockAt plain (blockStart (payloadStart plain) i)) (prevBlock scrambled (payloadStart plain) i)) k0) := by
  have hps : payloadStart plain = 155 := by decide +kernel
  have hr : roundsOf 155 = 2 := by decide
  rw [hps, hr]
  refine ⟨tr_trE, by decide +kernel, by decide +kernel, by decide +kernel, fun t h h3 => scrambled_frame t (by omega) (.inl h) h3,
    fun t h h1 => scrambled_frame t h1 (.inr h) (by omega), by decide +kernel⟩

theorem witness_DescramblerKeepsNoMemory : ∃ s u : State, u ≠ s ∧ u.p = s.p ∧ u.key = s.key :=
  ⟨State.reset, { State.reset with retry := 1 }, by decide, rfl, rfl⟩

theorem witness_Scan : (376 : Nat) ≤ 376 ∧ triple (ofList 1024 ((lead3 0).readBytes 0 377)) 0 = true ∧ 0 + 376 < 377 := by
  decide +kernel

theorem witness_SyncTriple : (18446744073709550968#64).toNat + 647 < 2 ^ 64 := by decide

theorem stEmpty_none (i : Nat) : ¬ searchCandidate stEmpty.src stEmpty.len.toNat stEmpty.cursor.toNat i := by
  intro h
  have h0 : (0x00#8 : Byte) = 0x47#8 := h.2.1
  exact absurd h0 (by decide)

/-- The clauses of one attempt: a candidate; none and a retry left; none at the tenth; a read error. -/
theorem witness_SearchStep :
    (Inv stSearch ∧ stSearch.host = [] ∧ stSearch.drvState = .searching ∧ stSearch.nextStatus = .ok ∧
      searchCandidate stSearch.src stSearch.len.toNat stSearch.cursor.toNat 0) ∧
    (Inv stEmpty ∧ stEmpty.nextStatus = .ok ∧
      (∀ i, ¬ searchCandidate stEmpty.src stEmpty.len.toNat stEmpty.cursor.toNat i) ∧ stEmpty.retry.toNat + 1 ≠ 10) ∧
    (Inv { stEmpty with retry := 9 } ∧ (9 : BitVec 4).toNat + 1 = 10) ∧
    (Inv { stSearch with ioRest := .err } ∧ ({ stSearch with ioRest := .err } : State).nextStatus = .err) := by
  refine ⟨⟨stSearch_inv, rfl, rfl, rfl, by unfold searchCandidate sourceTriple; decide⟩,
    ⟨stEmpty_inv, rfl, stEmpty_none, by decide⟩,
    ⟨by constructor <;> decide, by decide⟩, ⟨by constructor <;> decide, rfl⟩⟩

theorem stSearch_allOk : stSearch.allOk := ⟨fun _ h => (List.not_mem_nil h).elim, rfl⟩
theorem stEmpty_allOk : stEmpty.allOk := ⟨fun _ h => (List.not_mem_nil h).elim, rfl⟩

theorem witness_SearchSucceeds : stSearch.allOk ∧ stEmpty.allOk ∧ stSearch.retry = 0 ∧ stEmpty.retry = 0 :=
  ⟨stSearch_allOk, stEmpty_allOk, rfl, rfl⟩

theorem stSearch_locks : ∃ t, step stSearch = .next t ∧ (t.drvState == .locked && t.cursor == 0) = true :=
  exists_of_nextHas (by decide +kernel)

theorem witness_LockLeaves : ∃ s t : State, Inv s ∧ s.hostQuiet ∧ s.host = [] ∧ s.allOk ∧ s.drvState = .searching ∧
    step s = .next t ∧ t.drvState = .locked := by
  obtain ⟨t, h, hp⟩ := stSearch_locks
  simp only [Bool.and_eq_true, beq_iff_eq] at hp
  exact ⟨stSearch, t, stSearch_inv, .inl rfl, rfl, stSearch_allOk, rfl, h, hp.1⟩

theorem stBad_relocks : nextHas (step stBad) (fun t =>
    t.drvState == .searching && nextHas (step t) fun u => u.drvState == .locked && u.cursor == 1) = true := by decide +kernel

theorem witness_Relock : Inv stBad ∧ stBad.host = [] ∧ stBad.drvState = .locked ∧ stBad.nextStatus = .ok ∧
    188 ≤ stBad.len.toNat - stBad.cursor.toNat ∧ stBad.src.read stBad.cursor.toNat ≠ 0x47#8 ∧
    ∃ t u, step stBad = .next t ∧ step t = .next u ∧ u.drvState = .locked := by
  obtain ⟨t, h, hp⟩ := exists_of_nextHas stBad_relocks
  simp only [Bool.and_eq_true] at hp
  obtain ⟨u, h', hq⟩ := exists_of_nextHas hp.2
  simp only [Bool.and_eq_true, beq_iff_eq] at hq
  exact ⟨stBad_inv, rfl, rfl, rfl, by decide, by decide, t, u, h, h', hq.1⟩

theorem witness_InitStep : stInit.host = [] ∧ stInit.drvState = .init ∧ stInit.started = true ∧ stInit.nextStatus = .ok ∧
    ({ stInit with ioRest := .err } : State).nextStatus = .err := by decide

/-- 187 bytes remain. -/
theorem witness_StreamEnds : ({ stLocked with cursor := 190 } : State).host = [] ∧
    ({ stLocked with cursor := 190 } : State).drvState = .locked ∧ stLocked.len.toNat - (190 : Offset).toNat = 187 := by decide

theorem witness_LeadOk : State.reset.snk.wf = true ∧ State.reset.nextStatus = .ok ∧
    ({ State.reset with ioRest := .err } : State).nextStatus = .err := by decide

theorem witness_StepRuns_lead : stLocked.host = [] ∧ stLocked.drvState = .locked ∧ 188 ≤ stLocked.len.toNat - stLocked.cursor.toNat ∧
    stLocked.nextStatus = .ok ∧ stLocked.cursor.toNat + 188 ≤ stLocked.srcLen.toNat ∧
    decode .lead (stLocked.src.readBytes stLocked.cursor.toNat 188) = .ok .leadOk := by decide +kernel

theorem witness_StepRuns_header : decode .tshdr State.reset.p.toList = .ok (.reject { b0 := 0, b1 := 0, b2 := 0, b3 := 0 }) := by
  decide +kernel

/-- A triple at position 1, none at position 0. -/
theorem witness_StepRuns_triple : let s := { stBad with drvState := .searching }
    let l := s.src.readBytes s.cursor.toNat (min 1024 (s.srcLen.toNat - s.cursor.toNat))
    s.host = [] ∧ s.nextStatus = .ok ∧ s.cursor.toNat ≤ s.srcLen.toNat ∧ decode (.win3 1) l = .ok (.syncTriple 1) ∧
      decode (.win3 0) l = .error .noTriple := by decide +kernel

/-- A step for each clause of the state graph, from a state of the invariant. -/
theorem witness_StateGraph :
    nextHas (step stInit) (fun t => t.drvState == .searching) = true ∧
    nextHas (step State.reset) (fun t => t.drvState == .init) = true ∧
    nextHas (step stEmpty) (fun t => t.drvState == .searching && t.retry == 1) = true ∧
    nextHas (step { stLocked with ioRest := .err }) (fun t => t.drvState == .failed) = true ∧
    nextHas (step stLocked) (fun t => t.drvState == .locked && t.cursor == 188) = true ∧
    nextHas (step stDone) (fun t => t.drvState == .done) = true ∧
    Inv { stLocked with ioRest := .err } ∧ Inv { stLocked with cursor := 190 } := by
  exact ⟨rfl, rfl, by decide +kernel, by decide +kernel, by decide +kernel, rfl, by constructor <;> decide,
    by constructor <;> decide⟩

theorem witness_Terminal : stDone.terminal = true ∧ stDone.host = [] ∧
    ∃ s t : State, s.terminal = true ∧ step s = .next t ∧ t.drvState ≠ s.drvState := by
  obtain ⟨t, h, hp⟩ := exists_of_nextHas (o := step { stDone with host := [.rst] }) (P := fun t => t.drvState == .init) rfl
  simp only [beq_iff_eq] at hp
  exact ⟨rfl, rfl, { stDone with host := [.rst] }, t, rfl, h, by simp [hp, stDone]⟩

theorem witness_SinkHolds : ∃ t, Inv stLocked ∧ stLocked.host = [] ∧ stLocked.started = true ∧ steps 3 stLocked = .next t ∧
    (t.drvState == .done && t.snkLen == 376) = true := by
  obtain ⟨t, h, hp⟩ := exists_of_nextHas (o := steps 3 stLocked) (P := fun t => t.drvState == .done && t.snkLen == 376)
    (by decide +kernel)
  exact ⟨t, stLocked_inv, rfl, rfl, h, hp⟩

theorem witness_EveryRunEnds : Inv stInit ∧ stInit.host = [] ∧ stInit.drvState = .init ∧ stInit.started = true :=
  ⟨stInit_inv, rfl, rfl, rfl⟩

/-- 376 bytes, and 377 with a triple at 0. -/
theorem witness_ShortStreams :
    (Inv { State.reset with started := true, srcLen := 376 } ∧ (376 : Offset).toNat ≤ 376) ∧
    (Inv stInit ∧ stInit.allOk ∧ stInit.srcLen.toNat = 377 ∧ sourceTriple stInit.src 0) :=
  ⟨⟨by constructor <;> decide, by decide⟩, stInit_inv, ⟨fun _ h => (List.not_mem_nil h).elim, rfl⟩, by decide, by unfold sourceTriple; decide⟩

/-- A third whole packet after the lock. -/
theorem witness_EveryLock : ∃ t : State, Inv { stSearch with srcLen := 564, len := 564 } ∧
    step { stSearch with srcLen := 564, len := 564 } = .next t ∧ t.drvState = .locked ∧ 564 ≤ t.len.toNat - t.cursor.toNat := by
  obtain ⟨t, h, hp⟩ := exists_of_nextHas (o := step { stSearch with srcLen := 564, len := 564 })
    (P := fun t => t.drvState == .locked && decide (564 ≤ t.len.toNat - t.cursor.toNat)) (by decide +kernel)
  simp only [Bool.and_eq_true, beq_iff_eq, decide_eq_true_eq] at hp
  exact ⟨t, by constructor <;> decide, h, hp⟩

/-- A state of the invariant, with a step of the core, of reset and of start. -/
theorem witness_Invariant : Inv stSearch ∧ (∃ t, step stSearch = .next t) ∧ (∀ rest, stSearch.host ≠ .rst :: rest) ∧
    (∀ l rest, stSearch.host ≠ .attach l :: rest) ∧ runGoesOn stSearch = true :=
  ⟨stSearch_inv, stSearch_locks.imp fun _ h => h.1, by simp [stSearch, stInit, State.reset],
    by simp [stSearch, stInit, State.reset], rfl⟩

/-- An entry into FAILED by each cause. -/
theorem witness_Failure :
    nextHas (step { stEmpty with retry := 9 }) (fun t => t.drvState == .failed && t.failCause == .syncExhausted) = true ∧
    nextHas (step { stSearch with ioRest := .err }) (fun t => t.drvState == .failed && t.failCause == .srcIo) = true ∧
    nextHas (step { stLocked with ioDraws := [.ok, .err] }) (fun t => t.drvState == .failed && t.failCause == .snkIo) = true := by
  decide +kernel

/-- A step with an advisory event and a fatal one after it. -/
theorem witness_Events : nextHas (step { stLocked with src := { cells := [(0, 0x47), (3, 0x50)] }, ioDraws := [.ok, .err] })
    (fun t => t.events == [.reservedSc 0x50, .snkIoError 0]) = true := by decide +kernel

theorem witness_Unwritten : ∃ s t : State, s ≠ t ∧ SameButUnwritten s t :=
  ⟨State.reset, { State.reset with len := 5, wlen := 3, wasScr := true, key := k0 }, by decide, rfl, by decide, by decide⟩

theorem witness_SameButKey : ∃ s t : State, s.key ≠ t.key ∧ s.drvState = .locked ∧ SameButKey s t :=
  ⟨stLocked, { stLocked with key := k0 }, by decide, rfl, rfl, rfl, rfl⟩

theorem witness_Reset : ({ stLocked with host := [.rst] } : State).host = [.rst] := rfl

/-- The start step where its guard holds, and where it does not. -/
theorem witness_Start : (State.reset.drvState = .init ∧ State.reset.started = false) ∧
    ¬(stInit.drvState = .init ∧ stInit.started = false) ∧ ({ stInit with host := [.start k0] } : State).host = [.start k0] := by
  decide

theorem witness_Attach : (runGoesOn stDone = false ∧ ([0x47] : List Byte).length < 2 ^ 64) ∧ runGoesOn stLocked = true ∧
    ({ stDone with host := [.attach [0x47]] } : State).host = [.attach [0x47]] := by decide

/-- A read at the very end of the source. -/
theorem witness_Read : (377 : Offset).toNat ≤ stSearch.srcLen.toNat ∧ stSearch.nextStatus = .ok ∧
    ({ stSearch with ioRest := .err } : State).nextStatus = .err := by decide

theorem witness_Outputs : (Inv stDone ∧ stDone.outDone = true) ∧
    Inv { stDone with drvState := .failed, failCause := .srcIo } ∧ ({ stDone with drvState := .failed } : State).outFailed = true :=
  ⟨⟨stDone_inv, rfl⟩, by constructor <;> decide, rfl⟩

theorem witness_Canonical : (lead3 0).wf = true ∧ ∀ a, (lead3 0).read a = (lead3 0).read a := ⟨by decide, fun _ => rfl⟩

end Sys2Proof.Tests
end

section
/-! PROOFS. The invariant of 10_state.md R44: one lemma per operation that says the operation keeps it, then one step lemma assembled
from them along `CoreCase` and `HostCase`. -/

namespace Sys2Proof.Machine

/-! ### What the invariant says of the states in which the core reads -/

theorem Inv.failCause_of_not_failed {s : State} (h : Inv s) (hd : s.drvState ≠ .failed) : s.failCause = .noCause :=
  not_not.mp (mt h.causeIffFailed.mp hd)

/-- Outside FAILED the search is not exhausted (R44 (c), (d)). -/
theorem Inv.retry_le_nine_of_not_failed {s : State} (h : Inv s) (hd : s.drvState ≠ .failed) : s.retry.toNat ≤ 9 := by
  have hne : s.retry.toNat ≠ 10 := fun hr => by
    have := h.retryTen.mp hr
    rw [h.failCause_of_not_failed hd] at this
    cases this
  have := h.retryLe
  simp only [Config.RETRY_MAX] at this
  omega

/-- CURSOR lies within the source while it is read (R26, R44 (a)). -/
theorem Inv.cursor_le_srcLen {s : State} (h : Inv s) (hd : s.drvState = .searching ∨ s.drvState = .locked) :
    s.cursor.toNat ≤ s.srcLen.toNat := by
  rw [← h.lenTrue hd]
  exact h.cursorLeLen

/-! ### The next states of the longer ways of a core step, named -/

/-- STEP_INIT with a length (R162). -/
def lengthTaken (s : State) : State :=
  ((((s.afterSrcLen.setLen s.srcLen).setCursor 0).setBytesWritten 0).setRetry 0).setDrvState .searching

/-- A search step whose window read fails (R163, R197). -/
def windowReadFailed (s : State) : State :=
  (s.afterRead s.cursor 1024).loseWindow.enterFailed .srcIo (.srcIoError s.cursor)

/-- A locked step whose packet read fails (R166, R197). -/
def packetReadFailed (s : State) : State :=
  (s.afterRead s.cursor 188).losePacket.enterFailed .srcIo (.srcIoError s.cursor)

/-- A locked step that runs LEAD_OK: descrambled and appended (R169). -/
def packetConsumed (s : State) : State := appendPacket ((fetched s).deliver (decrypt (fetched s).p (fetched s).key))

/-! ### What the fills leave of the control registers -/

@[simp] theorem searched_drvState (s : State) : (searched s).drvState = s.drvState := by rw [searched_eq]
@[simp] theorem searched_cursor (s : State) : (searched s).cursor = s.cursor := by rw [searched_eq]
@[simp] theorem searched_srcLen (s : State) : (searched s).srcLen = s.srcLen := by rw [searched_eq]

/-! ### The operations of a step that leave the control registers -/

/-- The invariant reads neither the buffers and flags, nor the host's acts, the draws, the histories and the free count; of WLEN it asks
its bound alone. -/
theorem Inv.frame {s : State} (h : Inv s) {p o : Packet} {iv : Block} {w : Window} {wlen : BitVec 11}
    (hw : wlen.toNat ≤ Config.WIN) {wasScr rsvd pesWarn : Bool} {host : List HostAct} {ioDraws : List IoStatus}
    {trace : List Txn} {events : List Event} {freeCount : Nat} :
    Inv { s with
      p := p, o := o, iv := iv, w := w, wlen := wlen, wasScr := wasScr, rsvd := rsvd, pesWarn := pesWarn, host := host,
      ioDraws := ioDraws, trace := trace, events := events, freeCount := freeCount } :=
  { h with wlenLe := hw }

theorem Inv.setHost {s : State} (h : Inv s) (l : List HostAct) : Inv (s.setHost l) := h.frame h.wlenLe

theorem Inv.afterSrcLen {s : State} (h : Inv s) : Inv s.afterSrcLen := h.frame h.wlenLe

theorem Inv.afterRead {s : State} (h : Inv s) (a : Offset) (n : Nat) : Inv (s.afterRead a n) := h.frame h.wlenLe

theorem Inv.losePacket {s : State} (h : Inv s) : Inv s.losePacket := losePacket_eq s ▸ h.frame h.wlenLe

theorem Inv.loseWindow {s : State} (h : Inv s) : Inv s.loseWindow := loseWindow_eq s ▸ h.frame h.wlenLe

theorem Inv.fetched {s : State} (h : Inv s) : Inv (fetched s) := fetched_eq s ▸ h.frame h.wlenLe

theorem Inv.deliver {s : State} (h : Inv s) (r : PacketResult) : Inv (s.deliver r) := deliver_eq s r ▸ h.frame h.wlenLe

/-- A filled window is at most 1024 bytes long (R34). -/
theorem Inv.searched {s : State} (h : Inv s) : Inv (searched s) := by
  have hw : (Machine.searched s).wlen.toNat ≤ Config.WIN := by
    rw [searched_wlen]
    exact Nat.min_le_left _ _
  rw [searched_eq]
  exact h.frame hw

/-! ### The operations that move the control state -/

/-- Entry into FAILED for another cause than the exhausted search (R202). -/
theorem Inv.enterFailed {s : State} (h : Inv s) (hd : s.drvState ≠ .failed) (hs : s.started = true) {c : FailCause}
    (hc : c = .srcIo ∨ c = .snkIo) (e : Event) : Inv (s.enterFailed c e) := by
  have hretry := h.retry_le_nine_of_not_failed hd
  rw [enterFailed_eq]
  exact { h with
    lenTrue := by simp
    retrySearching := by simp
    retryTen := by
      have : s.retry.toNat ≠ Config.RETRY_MAX := by simp only [Config.RETRY_MAX]; omega
      rcases hc with rfl | rfl <;> simp [this]
    causeIffFailed := by rcases hc with rfl | rfl <;> simp
    doneRest := by simp
    initZero := by simp
    startedRun := fun _ => hs }

/-- Entry into recovery (R201). -/
theorem Inv.enterRecovery {s : State} (h : Inv s) (hd : s.drvState = .locked) : Inv s.enterRecovery := by
  have hcause := h.failCause_of_not_failed (by simp [hd])
  rw [enterRecovery_eq]
  exact { h with
    lenTrue := fun _ => h.lenTrue (.inr hd)
    retrySearching := by simp
    retryLe := by simp
    retryTen := by simp [hcause]
    causeIffFailed := by simp [hcause]
    doneRest := by simp
    initZero := by simp
    startedRun := fun _ => h.startedRun (by simp [hd]) }

/-- The lock at a position inside the source (R145, R204): CURSOR moves forward and stays within LEN. -/
theorem Inv.lockAt {s : State} (h : Inv s) (hd : s.drvState = .searching) {i : Nat}
    (hi : s.cursor.toNat + i ≤ s.srcLen.toNat) : Inv (s.lockAt i) := by
  have hcause := h.failCause_of_not_failed (by simp [hd])
  have hlen := h.lenTrue (.inl hd)
  have hcursor : (s.cursor + BitVec.ofNat 64 i).toNat = s.cursor.toNat + i :=
    offset_add (Nat.lt_of_le_of_lt hi (offset_lt s.srcLen))
  rw [lockAt_eq]
  exact { h with
    lenTrue := fun _ => hlen
    cursorLeLen := by rw [hcursor, hlen]; exact hi
    writtenLeCursor := by rw [hcursor]; exact Nat.le_add_right_of_le h.writtenLeCursor
    retrySearching := by simp
    causeIffFailed := by simp [hcause]
    doneRest := by simp
    initZero := by simp
    startedRun := fun _ => h.startedRun (by simp [hd]) }

/-- A failed attempt: RETRY counts to ten, and the tenth enters FAILED (R146, R147). -/
theorem Inv.searchMiss {s : State} (h : Inv s) (hd : s.drvState = .searching) : Inv (searchMiss s) := by
  have hretry := h.retrySearching hd
  have hcause := h.failCause_of_not_failed (by simp [hd])
  have hsucc := retry_succ hretry
  have hten := retry_succ_ten hretry
  rw [searchMiss_eq]
  split
  case isTrue hlast =>
    have hcount : (s.retry + 1).toNat = Config.RETRY_MAX := hsucc.trans (hten.mp hlast)
    exact { h with
      lenTrue := by simp
      retrySearching := by simp
      retryLe := hcount.le
      retryTen := ⟨fun _ => rfl, fun _ => hcount⟩
      causeIffFailed := by simp
      doneRest := by simp
      initZero := by simp
      startedRun := fun _ => h.startedRun (by simp [hd]) }
  case isFalse hmore =>
    rw [hten] at hmore
    exact { h with
      retrySearching := fun _ => by rw [hsucc]; omega
      retryLe := by rw [hsucc]; simp only [Config.RETRY_MAX]; omega
      retryTen := by simp only [hsucc, hcause, Config.RETRY_MAX]; simp; omega
      initZero := by simp [hd] }

/-- STEP_INIT with a length: LEN is the source's, the counters are zero (R162). -/
theorem Inv.lengthTaken {s : State} (h : Inv s) (hd : s.drvState = .init) (hs : s.started = true) :
    Inv (lengthTaken s) := by
  have hcause := h.failCause_of_not_failed (by simp [hd])
  have hzero := (h.initZero hd).2.1
  have hbase := h.sinkCount hs
  rw [Machine.lengthTaken, initOk_eq]
  exact { h with
    lenTrue := fun _ => rfl
    cursorLeLen := Nat.zero_le _
    writtenWhole := rfl
    writtenLeCursor := le_refl _
    retrySearching := fun _ => Nat.zero_le _
    retryLe := Nat.zero_le _
    retryTen := by simp [hcause]
    causeIffFailed := by simp [hcause]
    doneRest := by simp
    sinkCount := fun _ => by rw [hbase, hzero]
    initZero := by simp
    startedRun := fun _ => hs }

/-- The end of the stream: less than a packet remains (R167). -/
theorem Inv.streamEnd {s : State} (h : Inv s) (hd : s.drvState = .locked)
    (hlen : s.len.toNat - s.cursor.toNat < 188) : Inv (s.setDrvState .done) :=
  { h with
    lenTrue := by simp
    retrySearching := by simp
    causeIffFailed := by simp [h.failCause_of_not_failed (show s.drvState ≠ .failed by simp [hd])]
    doneRest := fun _ => hlen
    initZero := by simp
    startedRun := fun _ => h.startedRun (by simp [hd]) }

/-- The append of a whole packet: both counters and the sink grow by 188, or FAILED with neither (R169, R198). -/
theorem Inv.appendPacket {s : State} (h : Inv s) (hd : s.drvState = .locked)
    (hfit : s.cursor.toNat + 188 ≤ s.srcLen.toNat) : Inv (appendPacket s) := by
  have hs := h.startedRun (by simp [hd])
  rcases ok_or_err s.nextStatus with hok | herr
  · have hlen := h.lenTrue (.inr hd)
    have hmax := offset_lt s.srcLen
    have hle := h.writtenLeCursor
    have hcursor := offset_add_188 (x := s.cursor) (by omega)
    have hwritten := offset_add_188 (x := s.bytesWritten) (by omega)
    have hsink := h.sinkCount hs
    have hout : s.o.toList.length = 188 := by simp
    rw [appendPacket_ok s hok]
    exact { h with
      snkWf := Memory.writeBytes_wf _ _ _ h.snkWf
      snkWithin := Memory.writeBytes_within _ _ _ h.snkWithin (Nat.le_add_right _ _) (by rw [hout])
      cursorLeLen := by rw [hcursor, hlen]; exact hfit
      writtenWhole := by
        rw [hwritten, show 188 = Config.PKT from rfl, Nat.add_mod_right]
        exact h.writtenWhole
      writtenLeCursor := by rw [hcursor, hwritten]; omega
      doneRest := by simp [hd]
      sinkCount := fun _ => by simp only [hwritten, hsink]; omega
      initZero := by simp [hd] }
  · have hread : Inv s.afterWrite := afterWrite_err s herr ▸ h.frame h.wlenLe
    have hstate : s.afterWrite.drvState = .locked ∧ s.afterWrite.started = true := by
      rw [afterWrite_err s herr]
      exact ⟨hd, hs⟩
    have hfail : Machine.appendPacket s = s.afterWrite.enterFailed .snkIo (.snkIoError s.bytesWritten) := by
      simp only [Machine.appendPacket, herr]
    rw [hfail]
    exact hread.enterFailed (by simp [hstate.1]) hstate.2 (.inr rfl) _

theorem Inv.windowReadFailed {s : State} (h : Inv s) (hd : s.drvState = .searching) : Inv (windowReadFailed s) := by
  have hs := h.startedRun (by simp [hd])
  exact (h.afterRead _ _).loseWindow.enterFailed (by simp [loseWindow_eq, afterRead_eq, hd])
    (by simpa [loseWindow_eq, afterRead_eq] using hs) (.inl rfl) _

theorem Inv.packetReadFailed {s : State} (h : Inv s) (hd : s.drvState = .locked) : Inv (packetReadFailed s) := by
  have hs := h.startedRun (by simp [hd])
  exact (h.afterRead _ _).losePacket.enterFailed (by simp [losePacket_eq, afterRead_eq, hd])
    (by simpa [losePacket_eq, afterRead_eq] using hs) (.inl rfl) _

theorem Inv.packetConsumed {s : State} (h : Inv s) (hd : s.drvState = .locked)
    (hfit : s.cursor.toNat + 188 ≤ s.srcLen.toNat) : Inv (packetConsumed s) :=
  (h.fetched.deliver _).appendPacket (by simpa [deliver_eq, fetched_eq] using hd)
    (by simpa [deliver_eq, fetched_eq] using hfit)

/-! ### The steps -/

/-- Every core step keeps the invariant. -/
theorem Inv.coreCase {s t : State} (h : Inv s) (hc : CoreCase s t) : Inv t := by
  cases hc with
  | waits _ => exact h
  | initOk hd hs hok => exact h.lengthTaken hd hs
  | initErr hd hs herr => exact h.afterSrcLen.enterFailed (by simp [State.afterSrcLen, State.dropStatus, hd]) hs (.inl rfl) _
  | searchErr hd ha herr => exact h.windowReadFailed hd
  | searchHit hd ha hok i hscan =>
    have hi := (scan_some hscan).1
    rw [searched_wlen] at hi
    exact h.searched.lockAt (by simp [hd]) (by simp only [searched_cursor, searched_srcLen]; omega)
  | searchNone hd ha hok hscan => exact h.searched.searchMiss (by simp [hd])
  | streamEnd hd hlen => exact h.streamEnd hd hlen
  | packetErr hd hlen ha herr => exact h.packetReadFailed hd
  | packetOk hd hlen hok hfit hlead => exact h.packetConsumed hd hfit
  | packetLoss hd hlen hok hfit hlead => exact h.fetched.enterRecovery hd

/-- The reset step leads to INIT with every counter at zero (R220). -/
theorem Inv.resetStep {s : State} (h : Inv s) : Inv (resetStep s) :=
  { h with
    lenTrue := by simp [Machine.resetStep, State.reset]
    cursorLeLen := Nat.zero_le _
    writtenWhole := rfl
    writtenLeCursor := le_refl _
    retrySearching := fun _ => Nat.zero_le _
    retryLe := Nat.zero_le _
    retryTen := by simp [Machine.resetStep, State.reset]
    causeIffFailed := by simp [Machine.resetStep, State.reset]
    doneRest := by simp [Machine.resetStep, State.reset]
    sinkCount := by simp [Machine.resetStep, State.reset]
    initZero := fun _ => ⟨rfl, rfl, rfl⟩
    startedRun := by simp [Machine.resetStep, State.reset]
    wlenLe := Nat.zero_le _ }

/-- The start step makes the sink's end the base of the run's bytes (R222, log 19). -/
theorem Inv.startStep {s : State} (h : Inv s) (k : Key) : Inv (startStep k s) := by
  unfold Machine.startStep
  split
  case isTrue hinit =>
    have hzero := (h.initZero hinit.1).2.1
    exact { h with
      sinkCount := fun _ => by simp [hzero]
      startedRun := fun _ => rfl }
  case isFalse => exact h

/-- Another source between runs: LEN is not read there (R224). -/
theorem Inv.attach {s : State} (h : Inv s) (hrun : runGoesOn s = false) {l : List Byte} (hl : l.length < 2 ^ 64) :
    Inv (s.setSource (Memory.ofBytes l) (BitVec.ofNat 64 l.length)) :=
  { h with
    srcWf := Memory.ofBytes_wf l
    srcWithin := by
      have : (BitVec.ofNat 64 l.length).toNat = l.length := by
        rw [BitVec.toNat_ofNat, Nat.mod_eq_of_lt hl]
      show (Memory.ofBytes l).within (BitVec.ofNat 64 l.length).toNat = true
      rw [this]
      exact Memory.ofBytes_within l
    lenTrue := by
      rintro (hd | hd) <;> simp [runGoesOn, show s.drvState = _ from hd] at hrun }

/-- Every act of the host keeps the invariant. -/
theorem Inv.hostCase {s t : State} (h : Inv s) {a : HostAct} (hc : HostCase s a t) : Inv t := by
  cases hc with
  | idle hcore => exact h.coreCase hcore
  | rst => exact h.resetStep
  | start k => exact h.startStep k
  | attach l hrun hlen => exact h.attach hrun hlen

/-- Settles O42: every way a step can go, by `step_iff`, keeps the invariant. -/
theorem everyStepKeepsTheInvariant : Obligations.EveryStepKeepsTheInvariant := by
  intro s t h hstep
  rcases (step_iff s t).mp hstep with ⟨-, hcore⟩ | ⟨a, rest, -, hhost⟩
  · exact h.coreCase hcore
  · exact (h.setHost rest).hostCase hhost

/-- Settles O43, clause by clause on the reset values. -/
theorem invariantHoldsAtReset : Obligations.InvariantHoldsAtReset := by
  constructor <;> decide

/-- Settles O52: each value is read off the reset state. -/
theorem resetLeavesTheStatedValues : Obligations.ResetLeavesTheStatedValues :=
  ⟨rfl, rfl, rfl, rfl, rfl, rfl, rfl, rfl, rfl, rfl⟩

end Sys2Proof.Machine
end

section
/-! PROOFS. Where the core stops (log 11), said once: each state has a core step or is in one of two stops; the invariant excludes both
(10_state.md R26, 20_memory.md R53). -/

namespace Sys2Proof.Machine

/-- The read of this step would begin past the source's end (R53). -/
def ReadsBeyond (s : State) : Prop :=
  s.srcLen.toNat < s.cursor.toNat ∧
    (s.drvState = .searching ∨ s.drvState = .locked ∧ 188 ≤ s.len.toNat - s.cursor.toNat)

/-- The packet read of this step brings fewer bytes than LEN promises (R226). -/
def ReadsShort (s : State) : Prop :=
  s.drvState = .locked ∧ 188 ≤ s.len.toNat - s.cursor.toNat ∧ s.nextStatus = .ok ∧
    s.cursor.toNat ≤ s.srcLen.toNat ∧ s.srcLen.toNat < s.cursor.toNat + 188

theorem memRead_beyond {s : State} {a : Offset} (h : s.srcLen.toNat < a.toNat) (n : Nat) :
    s.memRead a n = .fault .readBeyondSource := by
  rw [State.memRead, if_pos h]

theorem coreStep_of_readsBeyond {s : State} (h : ReadsBeyond s) : coreStep s = .fault .readBeyondSource := by
  obtain ⟨hpast, hd | ⟨hd, hlen⟩⟩ := h
  · simp only [coreStep, hd, stepSearch, memRead_beyond hpast]
  · simp only [coreStep, hd, stepLocked, Config.PKT, if_neg (Nat.not_lt.mpr hlen), memRead_beyond hpast]

theorem coreStep_of_readsShort {s : State} (h : ReadsShort s) : coreStep s = .refused .lengthNotTrue := by
  obtain ⟨hd, hlen, hok, ha, hshort⟩ := h
  simp only [coreStep, hd, stepLocked, Config.PKT, if_neg (Nat.not_lt.mpr hlen), memRead_inside s _ _ ha,
    readAnswer_ok s _ _ hok, Memory.readBytes_length]
  rw [if_neg (by omega)]

/-- The core goes on, or it is in one of the two stops. -/
theorem coreCase_or_stop (s : State) : (∃ t, CoreCase s t) ∨ ReadsBeyond s ∨ ReadsShort s := by
  cases hd : s.drvState with
  | init =>
    cases hs : s.started with
    | false => exact .inl ⟨_, .waits (.inl ⟨hd, hs⟩)⟩
    | true =>
      rcases ok_or_err s.nextStatus with hok | herr
      · exact .inl ⟨_, .initOk hd hs hok⟩
      · exact .inl ⟨_, .initErr hd hs herr⟩
  | searching =>
    by_cases ha : s.cursor.toNat ≤ s.srcLen.toNat
    · rcases ok_or_err s.nextStatus with hok | herr
      · cases hscan : scan (searched s).w (searched s).wlen.toNat with
        | none => exact .inl ⟨_, .searchNone hd ha hok hscan⟩
        | some i => exact .inl ⟨_, .searchHit hd ha hok i hscan⟩
      · exact .inl ⟨_, .searchErr hd ha herr⟩
    · exact .inr (.inl ⟨by omega, .inl hd⟩)
  | locked =>
    by_cases hlen : 188 ≤ s.len.toNat - s.cursor.toNat
    · by_cases ha : s.cursor.toNat ≤ s.srcLen.toNat
      · rcases ok_or_err s.nextStatus with hok | herr
        · by_cases hfit : s.cursor.toNat + 188 ≤ s.srcLen.toNat
          · by_cases hlead : s.src.read s.cursor.toNat = Config.SYNC
            · exact .inl ⟨_, .packetOk hd hlen hok hfit hlead⟩
            · exact .inl ⟨_, .packetLoss hd hlen hok hfit hlead⟩
          · exact .inr (.inr ⟨hd, hlen, hok, ha, by omega⟩)
        · exact .inl ⟨_, .packetErr hd hlen ha herr⟩
      · exact .inr (.inl ⟨by omega, .inr ⟨hd, hlen⟩⟩)
    · exact .inl ⟨_, .streamEnd hd (by omega)⟩
  | done => exact .inl ⟨_, .waits (.inr (.inl hd))⟩
  | failed => exact .inl ⟨_, .waits (.inr (.inr hd))⟩

theorem Inv.not_readsBeyond {s : State} (h : Inv s) : ¬ ReadsBeyond s := by
  rintro ⟨hpast, hd⟩
  have := h.cursor_le_srcLen (hd.imp_right And.left)
  omega

theorem Inv.not_readsShort {s : State} (h : Inv s) : ¬ ReadsShort s := by
  rintro ⟨hd, hlen, -, -, hshort⟩
  rw [h.lenTrue (.inr hd)] at hlen
  omega

/-- In a state of the invariant the core goes on (R26). -/
theorem Inv.exists_coreCase {s : State} (h : Inv s) : ∃ t, CoreCase s t := by
  rcases coreCase_or_stop s with hnext | hbeyond | hshort
  · exact hnext
  · exact absurd hbeyond h.not_readsBeyond
  · exact absurd hshort h.not_readsShort

/-- In a state of the invariant every act of the host but an attach goes on. -/
theorem Inv.exists_hostCase {s : State} (h : Inv s) {a : HostAct} (ha : ∀ l, a ≠ .attach l) : ∃ t, HostCase s a t := by
  cases a with
  | idle =>
    obtain ⟨t, ht⟩ := h.exists_coreCase
    exact ⟨t, .idle ht⟩
  | rst => exact ⟨_, .rst⟩
  | start k => exact ⟨_, .start k⟩
  | attach l => exact absurd rfl (ha l)

/-- Settles O44: the core's step or the host's act goes on, since CURSOR and LEN stay within the source. -/
theorem noStateOfTheInvariantStops : Obligations.NoStateOfTheInvariantStops := by
  intro s h hattach
  cases hhost : s.host with
  | nil =>
    obtain ⟨t, ht⟩ := h.exists_coreCase
    exact ⟨t, (step_iff s t).mpr (.inl ⟨hhost, ht⟩)⟩
  | cons a rest =>
    obtain ⟨t, ht⟩ := (h.setHost rest).exists_hostCase (a := a) fun l hl => hattach l rest (hl ▸ hhost)
    exact ⟨t, (step_iff s t).mpr (.inr ⟨a, rest, hhost, ht⟩)⟩

end Sys2Proof.Machine
end

section
/-! PROOFS. Two relations between states that every step keeps: equal but for the registers without a value (10_state.md R42, R43,
R45), and equal but for what the key decides (R30, R41). `StepSimulation` says what such a relation needs: it fixes what steers a
step, and each way of a step keeps it. `StepSimulation.step` assembles the step from it, once for both. -/

namespace Sys2Proof.Machine

/-! ### What steers a step -/

/-- `t` has what decides which way the core goes from `s`: control state, source, draws, host acts; LEN where it is read. -/
structure SameControl (s t : State) : Prop where
  drvState : t.drvState = s.drvState
  started : t.started = s.started
  cursor : t.cursor = s.cursor
  len : s.drvState = .searching ∨ s.drvState = .locked → t.len = s.len
  src : t.src = s.src
  srcLen : t.srcLen = s.srcLen
  host : t.host = s.host
  ioDraws : t.ioDraws = s.ioDraws
  ioRest : t.ioRest = s.ioRest
  freeCount : t.freeCount = s.freeCount

namespace SameControl

variable {s t : State}

theorem nextStatus (h : SameControl s t) : t.nextStatus = s.nextStatus := by
  unfold State.nextStatus
  rw [h.ioDraws, h.ioRest]

theorem readAnswer (h : SameControl s t) (a : Offset) (n : Nat) : t.readAnswer a n = s.readAnswer a n := by
  unfold State.readAnswer
  rw [h.nextStatus, h.src, h.srcLen]

theorem srcLenAnswer (h : SameControl s t) : t.srcLenAnswer = s.srcLenAnswer := by
  unfold State.srcLenAnswer
  rw [h.nextStatus, h.srcLen]

theorem windowBytes (h : SameControl s t) : windowBytes t = windowBytes s := by
  unfold Machine.windowBytes
  rw [h.src, h.srcLen, h.cursor]

/-- The window that is read is the same, the free bytes beyond WLEN included (log 7). -/
theorem searched_window (h : SameControl s t) :
    (searched t).w = (searched s).w ∧ (searched t).wlen = (searched s).wlen := by
  simp only [searched, fillWindow_eq, afterRead_eq, h.windowBytes, h.freeCount, and_self]

theorem scan_searched (h : SameControl s t) :
    scan (searched t).w (searched t).wlen.toNat = scan (searched s).w (searched s).wlen.toNat := by
  rw [h.searched_window.1, h.searched_window.2]

theorem runGoesOn (h : SameControl s t) : runGoesOn t = runGoesOn s := by
  unfold Machine.runGoesOn
  rw [h.drvState, h.started]

theorem readsBeyond (h : SameControl s t) (hs : ReadsBeyond s) : ReadsBeyond t := by
  obtain ⟨hpast, hd⟩ := hs
  unfold ReadsBeyond
  rw [h.cursor, h.srcLen, h.drvState, h.len (hd.imp_right And.left)]
  exact ⟨hpast, hd⟩

theorem readsShort (h : SameControl s t) (hs : ReadsShort s) : ReadsShort t := by
  unfold ReadsShort
  rw [h.cursor, h.srcLen, h.drvState, h.len (.inr hs.1), h.nextStatus]
  exact hs

end SameControl

/-! ### Relations that every step keeps -/

/-- What makes every step keep a relation: it fixes what steers the step, and each way of `CoreCase` and each act of the host leads to
related states. -/
structure StepSimulation (R : State → State → Prop) : Prop where
  control : ∀ {s t : State}, R s t → SameControl s t
  lengthTaken : ∀ {s t : State}, R s t → s.drvState = .init → s.started = true → R (lengthTaken s) (lengthTaken t)
  initErr : ∀ {s t : State}, R s t → s.drvState = .init → s.started = true →
    R (s.afterSrcLen.enterFailed .srcIo (.srcIoError 0)) (t.afterSrcLen.enterFailed .srcIo (.srcIoError 0))
  windowReadFailed : ∀ {s t : State}, R s t → s.drvState = .searching → R (windowReadFailed s) (windowReadFailed t)
  searched : ∀ {s t : State}, R s t → s.drvState = .searching → R (searched s) (searched t)
  lockAt : ∀ {s t : State}, R s t → s.drvState = .searching → ∀ i, R (s.lockAt i) (t.lockAt i)
  searchMiss : ∀ {s t : State}, R s t → s.drvState = .searching → R (searchMiss s) (searchMiss t)
  streamEnd : ∀ {s t : State}, R s t → s.drvState = .locked → R (s.setDrvState .done) (t.setDrvState .done)
  packetReadFailed : ∀ {s t : State}, R s t → s.drvState = .locked → R (packetReadFailed s) (packetReadFailed t)
  packetConsumed : ∀ {s t : State}, R s t → s.drvState = .locked → R (packetConsumed s) (packetConsumed t)
  packetLoss : ∀ {s t : State}, R s t → s.drvState = .locked → R (fetched s).enterRecovery (fetched t).enterRecovery
  setHost : ∀ {s t : State}, R s t → ∀ l, R (s.setHost l) (t.setHost l)
  reset : ∀ {s t : State}, R s t → R (resetStep s) (resetStep t)
  start : ∀ {s t : State}, R s t → ∀ k, R (startStep k s) (startStep k t)
  setSource : ∀ {s t : State}, R s t → ∀ m n, R (s.setSource m n) (t.setSource m n)

namespace StepSimulation

variable {R : State → State → Prop} {s t : State}

/-- Each way the core goes from `s` has a partner from `t`. -/
theorem coreCase (hR : StepSimulation R) (h : R s t) {s' : State} (hc : CoreCase s s') : ∃ t', CoreCase t t' ∧ R s' t' := by
  have hctl := hR.control h
  cases hc with
  | waits hw => exact ⟨t, .waits (by rw [hctl.drvState, hctl.started]; exact hw), h⟩
  | initOk hd hs hok =>
    exact ⟨_, .initOk (hctl.drvState.trans hd) (hctl.started.trans hs) (hctl.nextStatus.trans hok), hR.lengthTaken h hd hs⟩
  | initErr hd hs herr =>
    exact ⟨_, .initErr (hctl.drvState.trans hd) (hctl.started.trans hs) (hctl.nextStatus.trans herr), hR.initErr h hd hs⟩
  | searchErr hd ha herr =>
    exact ⟨_, .searchErr (hctl.drvState.trans hd) (by rw [hctl.cursor, hctl.srcLen]; exact ha)
      (hctl.nextStatus.trans herr), hR.windowReadFailed h hd⟩
  | searchHit hd ha hok i hscan =>
    exact ⟨_, .searchHit (hctl.drvState.trans hd) (by rw [hctl.cursor, hctl.srcLen]; exact ha)
      (hctl.nextStatus.trans hok) i (hctl.scan_searched.trans hscan), hR.lockAt (hR.searched h hd) (by simp [hd]) i⟩
  | searchNone hd ha hok hscan =>
    exact ⟨_, .searchNone (hctl.drvState.trans hd) (by rw [hctl.cursor, hctl.srcLen]; exact ha)
      (hctl.nextStatus.trans hok) (hctl.scan_searched.trans hscan), hR.searchMiss (hR.searched h hd) (by simp [hd])⟩
  | streamEnd hd hlen =>
    exact ⟨_, .streamEnd (hctl.drvState.trans hd) (by rw [hctl.len (.inr hd), hctl.cursor]; exact hlen), hR.streamEnd h hd⟩
  | packetErr hd hlen ha herr =>
    exact ⟨_, .packetErr (hctl.drvState.trans hd) (by rw [hctl.len (.inr hd), hctl.cursor]; exact hlen)
      (by rw [hctl.cursor, hctl.srcLen]; exact ha) (hctl.nextStatus.trans herr), hR.packetReadFailed h hd⟩
  | packetOk hd hlen hok hfit hlead =>
    exact ⟨_, .packetOk (hctl.drvState.trans hd) (by rw [hctl.len (.inr hd), hctl.cursor]; exact hlen)
      (hctl.nextStatus.trans hok) (by rw [hctl.cursor, hctl.srcLen]; exact hfit)
      (by rw [hctl.cursor, hctl.src]; exact hlead), hR.packetConsumed h hd⟩
  | packetLoss hd hlen hok hfit hlead =>
    exact ⟨_, .packetLoss (hctl.drvState.trans hd) (by rw [hctl.len (.inr hd), hctl.cursor]; exact hlen)
      (hctl.nextStatus.trans hok) (by rw [hctl.cursor, hctl.srcLen]; exact hfit)
      (by rw [hctl.cursor, hctl.src]; exact hlead), hR.packetLoss h hd⟩

theorem coreStep (hR : StepSimulation R) (h : R s t) : OutcomesAgree R (coreStep s) (coreStep t) := by
  rcases coreCase_or_stop s with ⟨s', hs⟩ | hbeyond | hshort
  · obtain ⟨t', ht, h'⟩ := hR.coreCase h hs
    rw [(coreStep_iff s s').mpr hs, (coreStep_iff t t').mpr ht]
    exact h'
  · rw [coreStep_of_readsBeyond hbeyond, coreStep_of_readsBeyond ((hR.control h).readsBeyond hbeyond)]
    rfl
  · rw [coreStep_of_readsShort hshort, coreStep_of_readsShort ((hR.control h).readsShort hshort)]
    rfl

theorem attachStep (hR : StepSimulation R) (h : R s t) (l : List Byte) :
    OutcomesAgree R (attachStep l s) (attachStep l t) := by
  unfold Machine.attachStep
  rw [(hR.control h).runGoesOn]
  split
  · rfl
  · split
    · rfl
    · exact hR.setSource h _ _

theorem hostStep (hR : StepSimulation R) (h : R s t) (a : HostAct) : OutcomesAgree R (hostStep a s) (hostStep a t) := by
  cases a with
  | idle => exact hR.coreStep h
  | rst => exact hR.reset h
  | start k => exact hR.start h k
  | attach l => exact hR.attachStep h l

theorem step (hR : StepSimulation R) (h : R s t) : OutcomesAgree R (step s) (step t) := by
  have hhost := (hR.control h).host
  cases hs : s.host with
  | nil =>
    rw [step_quiet s hs, step_quiet t (hhost.trans hs)]
    exact hR.coreStep h
  | cons a rest =>
    rw [step_act s a rest hs, step_act t a rest (hhost.trans hs)]
    exact hR.hostStep (hR.setHost h rest) a

end StepSimulation

end Sys2Proof.Machine
end

section
/-! PROOFS. Registers that hold no value decide nothing (10_state.md R42, R43, R45). -/

namespace Sys2Proof.Machine

/-- The registers in which the second state may differ, named. -/
theorem sameButUnwritten_iff {s t : State} : SameButUnwritten s t ↔
    ∃ p o iv w wlen wasScr rsvd pesWarn len key,
      t = { s with
        p := p, o := o, iv := iv, w := w, wlen := wlen, wasScr := wasScr, rsvd := rsvd, pesWarn := pesWarn,
        len := len, key := key } ∧
      (s.drvState = .searching ∨ s.drvState = .locked → len = s.len) ∧
      (¬(s.drvState = .init ∧ s.started = false) → key = s.key) := by
  constructor
  · rintro ⟨heq, hlen, hkey⟩
    exact ⟨_, _, _, _, _, _, _, _, _, _, heq, hlen, hkey⟩
  · rintro ⟨p, o, iv, w, wlen, wasScr, rsvd, pesWarn, len, key, rfl, hlen, hkey⟩
    exact ⟨rfl, hlen, hkey⟩

namespace SameButUnwritten

variable {s t : State}

theorem control (h : SameButUnwritten s t) : SameControl s t := by
  obtain ⟨_, _, _, _, _, _, _, _, _, _, rfl, hlen, -⟩ := sameButUnwritten_iff.mp h
  exact ⟨rfl, rfl, rfl, hlen, rfl, rfl, rfl, rfl, rfl, rfl⟩

theorem lengthTaken (h : SameButUnwritten s t) (hs : s.started = true) :
    SameButUnwritten (lengthTaken s) (lengthTaken t) := by
  rw [Machine.lengthTaken, initOk_eq, Machine.lengthTaken, initOk_eq, h.control.srcLenAnswer]
  obtain ⟨_, _, _, _, _, _, _, _, _, _, rfl, -, hkey⟩ := sameButUnwritten_iff.mp h
  exact ⟨rfl, fun _ => rfl, fun _ => hkey (by simp [hs])⟩

theorem initErr (h : SameButUnwritten s t) (hs : s.started = true) :
    SameButUnwritten (s.afterSrcLen.enterFailed .srcIo (.srcIoError 0)) (t.afterSrcLen.enterFailed .srcIo (.srcIoError 0)) := by
  simp only [enterFailed_eq, afterSrcLen_eq, h.control.srcLenAnswer]
  obtain ⟨_, _, _, _, _, _, _, _, _, _, rfl, -, hkey⟩ := sameButUnwritten_iff.mp h
  exact ⟨rfl, by simp, fun _ => hkey (by simp [hs])⟩

theorem windowReadFailed (h : SameButUnwritten s t) (hd : s.drvState = .searching) :
    SameButUnwritten (windowReadFailed s) (windowReadFailed t) := by
  simp only [Machine.windowReadFailed, enterFailed_eq, loseWindow_eq, afterRead_eq, h.control.readAnswer]
  obtain ⟨_, _, _, _, _, _, _, _, _, _, rfl, -, hkey⟩ := sameButUnwritten_iff.mp h
  exact ⟨rfl, by simp, fun _ => hkey (by simp [hd])⟩

theorem searched (h : SameButUnwritten s t) :
    SameButUnwritten (searched s) (searched t) := by
  simp only [Machine.searched, fillWindow_eq, afterRead_eq, h.control.readAnswer, h.control.windowBytes]
  obtain ⟨_, _, _, _, _, _, _, _, _, _, rfl, hlen, hkey⟩ := sameButUnwritten_iff.mp h
  exact ⟨rfl, hlen, hkey⟩

theorem lockAt (h : SameButUnwritten s t) (hd : s.drvState = .searching) (i : Nat) :
    SameButUnwritten (s.lockAt i) (t.lockAt i) := by
  obtain ⟨_, _, _, _, _, _, _, _, _, _, rfl, hlen, hkey⟩ := sameButUnwritten_iff.mp h
  exact ⟨rfl, fun _ => hlen (.inl hd), fun _ => hkey (by simp [hd])⟩

theorem searchMiss (h : SameButUnwritten s t) (hd : s.drvState = .searching) :
    SameButUnwritten (searchMiss s) (searchMiss t) := by
  obtain ⟨_, _, _, _, _, _, _, _, _, _, rfl, hlen, hkey⟩ := sameButUnwritten_iff.mp h
  rw [searchMiss_eq, searchMiss_eq]
  split
  · exact ⟨rfl, by simp, fun _ => hkey (by simp [hd])⟩
  · exact ⟨rfl, hlen, hkey⟩

theorem streamEnd (h : SameButUnwritten s t) (hd : s.drvState = .locked) :
    SameButUnwritten (s.setDrvState .done) (t.setDrvState .done) := by
  obtain ⟨_, _, _, _, _, _, _, _, _, _, rfl, hlen, hkey⟩ := sameButUnwritten_iff.mp h
  exact ⟨rfl, by simp, fun _ => hkey (by simp [hd])⟩

theorem packetReadFailed (h : SameButUnwritten s t) (hd : s.drvState = .locked) :
    SameButUnwritten (packetReadFailed s) (packetReadFailed t) := by
  simp only [Machine.packetReadFailed, enterFailed_eq, losePacket_eq, afterRead_eq, h.control.readAnswer]
  obtain ⟨_, _, _, _, _, _, _, _, _, _, rfl, -, hkey⟩ := sameButUnwritten_iff.mp h
  exact ⟨rfl, by simp, fun _ => hkey (by simp [hd])⟩

/-- Once the packet is in P, its meaning sees the same P and KEY, so O and the flags are the same (R45, R110). -/
theorem delivered (h : SameButUnwritten s t) (hd : s.drvState = .locked) (r : PacketResult) :
    ∃ iv w wlen, (fetched t).deliver r = { (fetched s).deliver r with iv := iv, w := w, wlen := wlen } := by
  simp only [deliver_eq, fetched_eq, h.control.readAnswer]
  obtain ⟨_, _, _, _, _, _, _, _, _, _, rfl, hlen, hkey⟩ := sameButUnwritten_iff.mp h
  rw [hlen (.inr hd), hkey (by simp [hd])]
  exact ⟨_, _, _, rfl⟩

/-- The append reads O, the flags and BYTES_WRITTEN, not IV, W or WLEN (R55). -/
theorem appendPacket_window (s : State) (iv : Block) (w : Window) (wlen : BitVec 11) :
    appendPacket { s with iv := iv, w := w, wlen := wlen } = { appendPacket s with iv := iv, w := w, wlen := wlen } := by
  rcases ok_or_err s.nextStatus with hok | herr
  · rw [appendPacket_ok s hok]
    exact appendPacket_ok _ hok
  · rw [appendPacket_err s herr]
    exact appendPacket_err _ herr

theorem packetConsumed (h : SameButUnwritten s t) (hd : s.drvState = .locked) :
    SameButUnwritten (packetConsumed s) (packetConsumed t) := by
  have hp : (fetched t).p = (fetched s).p := by
    simp only [fetched_eq, h.control.src, h.control.cursor]
  have hkey : (fetched t).key = (fetched s).key := by
    simp only [fetched_eq]
    exact h.2.2 (by simp [hd])
  obtain ⟨iv, w, wlen, heq⟩ := h.delivered hd (decrypt (fetched s).p (fetched s).key)
  rw [Machine.packetConsumed, Machine.packetConsumed, hp, hkey, heq, appendPacket_window _ iv w wlen]
  exact ⟨rfl, fun _ => rfl, fun _ => rfl⟩

theorem packetLoss (h : SameButUnwritten s t) (hd : s.drvState = .locked) :
    SameButUnwritten (fetched s).enterRecovery (fetched t).enterRecovery := by
  simp only [enterRecovery_eq, fetched_eq, h.control.readAnswer]
  obtain ⟨_, _, _, _, _, _, _, _, _, _, rfl, hlen, hkey⟩ := sameButUnwritten_iff.mp h
  exact ⟨rfl, fun _ => hlen (.inr hd), fun _ => hkey (by simp [hd])⟩

theorem setHost (h : SameButUnwritten s t) (l : List HostAct) : SameButUnwritten (s.setHost l) (t.setHost l) := by
  obtain ⟨_, _, _, _, _, _, _, _, _, _, rfl, hlen, hkey⟩ := sameButUnwritten_iff.mp h
  exact ⟨rfl, hlen, hkey⟩

theorem setSource (h : SameButUnwritten s t) (m : Memory) (n : Offset) :
    SameButUnwritten (s.setSource m n) (t.setSource m n) := by
  obtain ⟨_, _, _, _, _, _, _, _, _, _, rfl, hlen, hkey⟩ := sameButUnwritten_iff.mp h
  exact ⟨rfl, hlen, hkey⟩

/-- The reset step writes every register in which the two may differ. -/
theorem reset (h : SameButUnwritten s t) : SameButUnwritten (resetStep s) (resetStep t) := by
  obtain ⟨_, _, _, _, _, _, _, _, _, _, rfl, -, -⟩ := sameButUnwritten_iff.mp h
  exact ⟨rfl, fun _ => rfl, fun _ => rfl⟩

/-- A start step that is not ignored latches one key into both. -/
theorem start (h : SameButUnwritten s t) (k : Key) : SameButUnwritten (startStep k s) (startStep k t) := by
  unfold startStep
  rw [h.control.drvState, h.control.started]
  split
  case isTrue hinit =>
    obtain ⟨_, _, _, _, _, _, _, _, _, _, rfl, hlen, -⟩ := sameButUnwritten_iff.mp h
    exact ⟨rfl, hlen, fun _ => rfl⟩
  case isFalse => exact h

theorem stepSimulation : StepSimulation SameButUnwritten where
  control := control
  lengthTaken := fun h _ hs => h.lengthTaken hs
  initErr := fun h _ hs => h.initErr hs
  windowReadFailed := windowReadFailed
  searched := fun h _ => h.searched
  lockAt := lockAt
  searchMiss := searchMiss
  streamEnd := streamEnd
  packetReadFailed := packetReadFailed
  packetConsumed := packetConsumed
  packetLoss := packetLoss
  setHost := setHost
  reset := reset
  start := start
  setSource := setSource

end SameButUnwritten

/-- Settles O48: the relation fixes what steers a step, and each way of a step overwrites such a register before reading it. -/
theorem unwrittenRegistersDecideNothing : Obligations.UnwrittenRegistersDecideNothing :=
  fun _ _ h => SameButUnwritten.stepSimulation.step h

end Sys2Proof.Machine
end

section
/-! PROOFS. The key decides no control state, no source access and no packet count (10_state.md R30, R41). -/

namespace Sys2Proof.Machine

/-! ### What two keys leave the same in a packet's result -/

/-- Two results for one packet agree but for what the key decides in them. -/
structure PacketResult.SameButKey (r r' : PacketResult) : Prop where
  wasScr : r'.flags.wasScr = r.flags.wasScr
  rsvd : r'.flags.rsvd = r.flags.rsvd
  calls : r'.calls.map Txn.withoutKey = r.calls.map Txn.withoutKey
  events : r'.events.filter (fun e => !e.isPesMismatch) = r.events.filter (fun e => !e.isPesMismatch)

/-- The cipher inputs are blocks of P: without the key the calls are the same whatever it is (R123). -/
theorem cbcEnd_calls_withoutKey (D : Block → Key → Block) (key key' : Key) (p : Packet) (ps : Nat) :
    (cbcEnd D key' p ps).calls.map Txn.withoutKey = (cbcEnd D key p ps).calls.map Txn.withoutKey := by
  simp [cbcEnd, cbcLoop_calls, cipherCall, Txn.withoutKey, Function.comp_def]

/-- The flags of a scrambled packet, PES_WARN apart (R115). -/
theorem flagsDesc_fixed (warn warn' : Bool) :
    (flagsDesc warn').wasScr = (flagsDesc warn).wasScr ∧ (flagsDesc warn').rsvd = (flagsDesc warn).rsvd := ⟨rfl, rfl⟩

/-- The start-code check raises nothing but PesMismatch (R124). -/
theorem warnEvents_filter (ps : Nat) (warn : Bool) : (warnEvents ps warn).filter (fun e => !e.isPesMismatch) = [] := by
  cases warn <;> rfl

theorem descrambleWith_sameButKey (D : Block → Key → Block) (on pusi : Bool) (ps : Nat) (p : Packet) (key key' : Key) :
    (descrambleWith D on pusi ps p key).SameButKey (descrambleWith D on pusi ps p key') where
  wasScr := (flagsDesc_fixed _ _).1
  rsvd := (flagsDesc_fixed _ _).2
  calls := cbcEnd_calls_withoutKey D key key' p ps
  events := (warnEvents_filter _ _).trans (warnEvents_filter _ _).symm

/-- The class is the packet's, so two keys give results of the same kind (R88, R110). -/
theorem decrypt_sameButKey (p : Packet) (key key' : Key) : (decrypt p key).SameButKey (decrypt p key') := by
  unfold decrypt decryptWith
  cases classOf p with
  | reject h => exact ⟨rfl, rfl, rfl, rfl⟩
  | passClear h => exact ⟨rfl, rfl, rfl, rfl⟩
  | passRsvd h => exact ⟨rfl, rfl, rfl, rfl⟩
  | descNoaf h => exact descrambleWith_sameButKey _ _ _ _ _ _ _
  | descAf h l => exact descrambleWith_sameButKey _ _ _ _ _ _ _

/-! ### The relation on states -/

/-- The fields in which the second state may differ, named. -/
theorem sameButKey_iff {s t : State} : SameButKey s t ↔
    ∃ key o iv pesWarn snk trace events,
      t = { s with
        key := key, o := o, iv := iv, pesWarn := pesWarn, snk := snk, trace := trace, events := events } ∧
      trace.map Txn.withoutKey = s.trace.map Txn.withoutKey ∧
      events.filter (fun e => !e.isPesMismatch) = s.events.filter (fun e => !e.isPesMismatch) := by
  constructor
  · rintro ⟨heq, htrace, hevents⟩
    exact ⟨_, _, _, _, _, _, _, heq, htrace, hevents⟩
  · rintro ⟨key, o, iv, pesWarn, snk, trace, events, rfl, htrace, hevents⟩
    exact ⟨rfl, htrace, hevents⟩

namespace SameButKey

variable {s t : State}

theorem control (h : SameButKey s t) : SameControl s t := by
  obtain ⟨_, _, _, _, _, _, _, rfl, -, -⟩ := sameButKey_iff.mp h
  exact ⟨rfl, rfl, rfl, fun _ => rfl, rfl, rfl, rfl, rfl, rfl, rfl⟩

/-! The operations of a step, each on both states -/

theorem afterSrcLen (h : SameButKey s t) : SameButKey s.afterSrcLen t.afterSrcLen := by
  rw [afterSrcLen_eq, afterSrcLen_eq, h.control.srcLenAnswer]
  obtain ⟨_, _, _, _, _, _, _, rfl, htrace, hevents⟩ := sameButKey_iff.mp h
  exact ⟨rfl, by simp [htrace], hevents⟩

theorem afterRead (h : SameButKey s t) (a : Offset) (n : Nat) : SameButKey (s.afterRead a n) (t.afterRead a n) := by
  rw [afterRead_eq, afterRead_eq, h.control.readAnswer]
  obtain ⟨_, _, _, _, _, _, _, rfl, htrace, hevents⟩ := sameButKey_iff.mp h
  exact ⟨rfl, by simp [htrace], hevents⟩

theorem losePacket (h : SameButKey s t) : SameButKey s.losePacket t.losePacket := by
  rw [losePacket_eq, losePacket_eq]
  obtain ⟨_, _, _, _, _, _, _, rfl, htrace, hevents⟩ := sameButKey_iff.mp h
  exact ⟨rfl, htrace, hevents⟩

theorem loseWindow (h : SameButKey s t) : SameButKey s.loseWindow t.loseWindow := by
  rw [loseWindow_eq, loseWindow_eq]
  obtain ⟨_, _, _, _, _, _, _, rfl, htrace, hevents⟩ := sameButKey_iff.mp h
  exact ⟨rfl, htrace, hevents⟩

theorem enterFailed (h : SameButKey s t) (c : FailCause) (e : Event) :
    SameButKey (s.enterFailed c e) (t.enterFailed c e) := by
  obtain ⟨_, _, _, _, _, _, _, rfl, htrace, hevents⟩ := sameButKey_iff.mp h
  exact ⟨rfl, htrace, by simp [enterFailed_eq, hevents]⟩

theorem enterRecovery (h : SameButKey s t) : SameButKey s.enterRecovery t.enterRecovery := by
  obtain ⟨_, _, _, _, _, _, _, rfl, htrace, hevents⟩ := sameButKey_iff.mp h
  exact ⟨rfl, htrace, by simp [enterRecovery_eq, hevents]⟩

theorem setDrvState (h : SameButKey s t) (d : DrvState) : SameButKey (s.setDrvState d) (t.setDrvState d) := by
  obtain ⟨_, _, _, _, _, _, _, rfl, htrace, hevents⟩ := sameButKey_iff.mp h
  exact ⟨rfl, htrace, hevents⟩

theorem lockAt (h : SameButKey s t) (i : Nat) : SameButKey (s.lockAt i) (t.lockAt i) := by
  obtain ⟨_, _, _, _, _, _, _, rfl, htrace, hevents⟩ := sameButKey_iff.mp h
  exact ⟨rfl, htrace, hevents⟩

theorem lengthTaken (h : SameButKey s t) :
    SameButKey (lengthTaken s) (lengthTaken t) := by
  rw [Machine.lengthTaken, initOk_eq, Machine.lengthTaken, initOk_eq, h.control.srcLenAnswer]
  obtain ⟨_, _, _, _, _, _, _, rfl, htrace, hevents⟩ := sameButKey_iff.mp h
  exact ⟨rfl, by simp [htrace], hevents⟩

theorem searched (h : SameButKey s t) : SameButKey (searched s) (searched t) := by
  simp only [Machine.searched, fillWindow_eq, afterRead_eq, h.control.readAnswer, h.control.windowBytes]
  obtain ⟨_, _, _, _, _, _, _, rfl, htrace, hevents⟩ := sameButKey_iff.mp h
  exact ⟨rfl, by simp [htrace], hevents⟩

theorem searchMiss (h : SameButKey s t) : SameButKey (searchMiss s) (searchMiss t) := by
  obtain ⟨_, _, _, _, _, _, _, rfl, htrace, hevents⟩ := sameButKey_iff.mp h
  rw [searchMiss_eq, searchMiss_eq]
  split
  · exact ⟨rfl, htrace, by simp [hevents]⟩
  · exact ⟨rfl, htrace, hevents⟩

theorem fetched (h : SameButKey s t) : SameButKey (fetched s) (fetched t) := by
  rw [fetched_eq, fetched_eq, h.control.readAnswer]
  obtain ⟨_, _, _, _, _, _, _, rfl, htrace, hevents⟩ := sameButKey_iff.mp h
  exact ⟨rfl, by simp [htrace], hevents⟩

theorem deliver (h : SameButKey s t) {r r' : PacketResult} (hr : r.SameButKey r') :
    SameButKey (s.deliver r) (t.deliver r') := by
  rw [deliver_eq, deliver_eq, hr.wasScr, hr.rsvd]
  obtain ⟨_, _, _, _, _, _, _, rfl, htrace, hevents⟩ := sameButKey_iff.mp h
  exact ⟨rfl, by simp [htrace, hr.calls], by simp [hevents, hr.events]⟩

/-- Both appends are answered alike, and add the same number of bytes (R55). -/
theorem appendPacket (h : SameButKey s t) : SameButKey (appendPacket s) (appendPacket t) := by
  have hstatus := h.control.nextStatus
  obtain ⟨_, _, _, _, _, _, _, rfl, htrace, hevents⟩ := sameButKey_iff.mp h
  rcases ok_or_err s.nextStatus with hok | herr
  · rw [appendPacket_ok s hok, appendPacket_ok _ (hstatus.trans hok)]
    exact ⟨rfl, by simp [htrace, Txn.withoutKey, State.sideband], hevents⟩
  · rw [appendPacket_err s herr, appendPacket_err _ (hstatus.trans herr)]
    exact ⟨rfl, by simp [htrace, Txn.withoutKey, State.sideband], by simp [hevents]⟩

theorem p (h : SameButKey s t) : t.p = s.p := by
  obtain ⟨_, _, _, _, _, _, _, rfl, -, -⟩ := sameButKey_iff.mp h
  rfl

theorem packetConsumed (h : SameButKey s t) : SameButKey (packetConsumed s) (packetConsumed t) := by
  rw [Machine.packetConsumed, Machine.packetConsumed, h.fetched.p]
  exact (h.fetched.deliver (decrypt_sameButKey _ _ _)).appendPacket

theorem windowReadFailed (h : SameButKey s t) : SameButKey (windowReadFailed s) (windowReadFailed t) := by
  rw [Machine.windowReadFailed, Machine.windowReadFailed, h.control.cursor]
  exact (h.afterRead _ _).loseWindow.enterFailed _ _

theorem packetReadFailed (h : SameButKey s t) : SameButKey (packetReadFailed s) (packetReadFailed t) := by
  rw [Machine.packetReadFailed, Machine.packetReadFailed, h.control.cursor]
  exact (h.afterRead _ _).losePacket.enterFailed _ _

/-! The acts of the host -/

theorem setHost (h : SameButKey s t) (l : List HostAct) : SameButKey (s.setHost l) (t.setHost l) := by
  obtain ⟨_, _, _, _, _, _, _, rfl, htrace, hevents⟩ := sameButKey_iff.mp h
  exact ⟨rfl, htrace, hevents⟩

theorem setSource (h : SameButKey s t) (m : Memory) (n : Offset) : SameButKey (s.setSource m n) (t.setSource m n) := by
  obtain ⟨_, _, _, _, _, _, _, rfl, htrace, hevents⟩ := sameButKey_iff.mp h
  exact ⟨rfl, htrace, hevents⟩

theorem reset (h : SameButKey s t) : SameButKey (resetStep s) (resetStep t) := by
  obtain ⟨_, _, _, _, _, _, _, rfl, htrace, hevents⟩ := sameButKey_iff.mp h
  exact ⟨rfl, htrace, hevents⟩

theorem start (h : SameButKey s t) (k : Key) : SameButKey (startStep k s) (startStep k t) := by
  unfold startStep
  rw [h.control.drvState, h.control.started]
  split
  case isTrue hinit =>
    obtain ⟨_, _, _, _, _, _, _, rfl, htrace, hevents⟩ := sameButKey_iff.mp h
    exact ⟨rfl, htrace, hevents⟩
  case isFalse => exact h

theorem stepSimulation : StepSimulation SameButKey where
  control := control
  lengthTaken := fun h _ _ => h.lengthTaken
  initErr := fun h _ _ => h.afterSrcLen.enterFailed _ _
  windowReadFailed := fun h _ => h.windowReadFailed
  searched := fun h _ => h.searched
  lockAt := fun h _ => h.lockAt
  searchMiss := fun h _ => h.searchMiss
  streamEnd := fun h _ => h.setDrvState _
  packetReadFailed := fun h _ => h.packetReadFailed
  packetConsumed := fun h _ => h.packetConsumed
  packetLoss := fun h _ => h.fetched.enterRecovery
  setHost := setHost
  reset := reset
  start := start
  setSource := setSource

end SameButKey

/-- Settles O49: the key reaches a step through the cipher alone, and what the cipher gives steers nothing. -/
theorem keyDecidesNoControlState : Obligations.KeyDecidesNoControlState :=
  fun _ _ h => SameButKey.stepSimulation.step h

end Sys2Proof.Machine
end

section
/-! PROOFS. Byte memories: what a canonical memory reads decides its cells (log 9), and stretches of bytes read back after a write
(20_memory.md R51, R54). -/

namespace Sys2Proof.Machine

/-- Of cells at rising offsets, a listed one is what its offset reads (log 9). -/
theorem readCells_of_mem {m : List Host.Cell} (hs : m.Pairwise fun x y => x.1 < y.1) {c : Host.Cell} (hc : c ∈ m) :
    readCells m c.1 = c.2 := by
  induction m with
  | nil => cases hc
  | cons d m ih =>
    obtain ⟨hd, hm⟩ := List.pairwise_cons.mp hs
    rcases List.mem_cons.mp hc with rfl | hc
    · simp [readCells]
    · rw [readCells, if_neg (Nat.ne_of_lt (hd c hc)), ih hm hc]

/-- A byte that no unlisted offset reads is listed. -/
theorem mem_of_readCells {m : List Host.Cell} {c : Host.Cell} (hv : c.2 ≠ Config.unlistedByte)
    (hr : readCells m c.1 = c.2) : c ∈ m := by
  induction m with
  | nil => exact absurd hr.symm hv
  | cons d m ih =>
    rw [readCells] at hr
    split at hr
    case isTrue ha => exact List.mem_cons.mpr (.inl (Prod.ext ha hr).symm)
    case isFalse => exact List.mem_cons_of_mem _ (ih hr)

namespace Memory

/-- The cells of a canonical memory are what it reads apart from the unlisted byte (log 9). -/
theorem mem_cells_iff {m : Memory} (h : m.wf = true) (c : Host.Cell) :
    c ∈ m.cells ↔ c.2 ≠ Config.unlistedByte ∧ m.read c.1 = c.2 := by
  obtain ⟨hs, hv⟩ := (wf_iff m).mp h
  exact ⟨fun hc => ⟨hv c hc, readCells_of_mem hs hc⟩, fun ⟨hne, hr⟩ => mem_of_readCells hne hr⟩

/-- A stretch of bytes is its first part and then the rest. -/
theorem readBytes_add (m : Memory) (a n k : Nat) : m.readBytes a (n + k) = m.readBytes a n ++ m.readBytes (a + n) k := by
  simp [readBytes, List.range_add, Nat.add_assoc]

/-- A list of bytes reads back as it was written (R54). -/
theorem readBytes_writeBytes_same {m : Memory} (h : m.wf = true) (a : Nat) (l : List Byte) :
    (m.writeBytes a l).readBytes a l.length = l := by
  refine List.ext_getElem (by simp) fun i hi hl => ?_
  simp [readBytes, read_writeBytes l m a _ h, hl]

/-- A write leaves the bytes below it (R54). -/
theorem readBytes_writeBytes_below {m : Memory} (h : m.wf = true) (n : Nat) (l : List Byte) :
    (m.writeBytes n l).readBytes 0 n = m.readBytes 0 n := by
  refine List.map_congr_left fun t ht => ?_
  have := List.mem_range.mp ht
  rw [read_writeBytes l m n _ h, if_neg (by omega)]

end Memory

/-- A canonical memory lists no cell twice. -/
theorem Memory.cells_nodup {m : Memory} (h : m.wf = true) : m.cells.Nodup :=
  ((wf_iff m).mp h).1.imp fun hlt heq => Nat.ne_of_lt hlt (congrArg Prod.fst heq)

/-- Settles O58: canonical memories that read alike list the same cells, and cells at rising offsets have one order. -/
theorem canonicalMemoriesThatReadAlikeAreEqual : Obligations.CanonicalMemoriesThatReadAlikeAreEqual := by
  intro m m' h h' hread
  have hmem (c : Host.Cell) : c ∈ m.cells ↔ c ∈ m'.cells := by
    rw [Memory.mem_cells_iff h c, Memory.mem_cells_iff h' c, hread]
  have hperm : m.cells.Perm m'.cells :=
    (List.perm_ext_iff_of_nodup (Memory.cells_nodup h) (Memory.cells_nodup h')).mpr hmem
  have hcells : m.cells = m'.cells :=
    hperm.eq_of_pairwise (fun _ _ _ _ hlt hgt => absurd hlt (Nat.lt_asymm hgt)) ((Memory.wf_iff m).mp h).1
      ((Memory.wf_iff m').mp h').1
  exact congrArg Memory.mk hcells

end Sys2Proof.Machine
end

section
/-! PROOFS. The source is fixed during a run, and the sink is left or extended by one decrypted packet (20_memory.md R54, R55,
R68). -/

namespace Sys2Proof.Machine

/-! ### What a core step does to the streams, named -/

/-- `t` has the source, the key and what the host and the start step set, as `s` has them. -/
structure CoreFrame (s t : State) : Prop where
  src : t.src = s.src
  srcLen : t.srcLen = s.srcLen
  key : t.key = s.key
  started : t.started = s.started
  runBase : t.runBase = s.runBase
  host : t.host = s.host

theorem CoreFrame.refl (s : State) : CoreFrame s s := ⟨rfl, rfl, rfl, rfl, rfl, rfl⟩

theorem CoreFrame.trans {s t u : State} (h : CoreFrame s t) (h' : CoreFrame t u) : CoreFrame s u :=
  ⟨h'.src.trans h.src, h'.srcLen.trans h.srcLen, h'.key.trans h.key, h'.started.trans h.started,
    h'.runBase.trans h.runBase, h'.host.trans h.host⟩

/-- Beside that, `t` has the sink as `s` has it. -/
structure KeepsStreams (s t : State) : Prop extends CoreFrame s t where
  snk : t.snk = s.snk
  snkLen : t.snkLen = s.snkLen

/-- One packet is appended to the sink (R55). -/
structure AppendsPacket (s t : State) (out : Packet) : Prop where
  snk : t.snk = s.snk.writeBytes s.snkLen out.toList
  snkLen : t.snkLen = s.snkLen + 188

/-- The source packet at `a` as the descrambler puts it out (R110). -/
def decryptedAt (m : Memory) (key : Key) (a : Nat) : Packet := (decrypt (packetAt m a) key).output

/-- The packet at CURSOR is consumed: decrypted, appended, and CURSOR moved past it (R71, R169). -/
structure ConsumesPacket (s t : State) : Prop extends CoreFrame s t where
  fits : s.cursor.toNat + 188 ≤ s.srcLen.toNat
  appends : AppendsPacket s t (decryptedAt s.src s.key s.cursor.toNat)
  cursor : t.cursor.toNat = s.cursor.toNat + 188

/-! ### The operations of a step that leave the streams -/

namespace KeepsStreams

theorem refl (s : State) : KeepsStreams s s := ⟨.refl s, rfl, rfl⟩

theorem trans {s t u : State} (h : KeepsStreams s t) (h' : KeepsStreams t u) : KeepsStreams s u :=
  ⟨h.toCoreFrame.trans h'.toCoreFrame, h'.snk.trans h.snk, h'.snkLen.trans h.snkLen⟩

theorem afterSrcLen (s : State) : KeepsStreams s s.afterSrcLen := ⟨⟨rfl, rfl, rfl, rfl, rfl, rfl⟩, rfl, rfl⟩

theorem afterRead (s : State) (a : Offset) (n : Nat) : KeepsStreams s (s.afterRead a n) :=
  ⟨⟨rfl, rfl, rfl, rfl, rfl, rfl⟩, rfl, rfl⟩

theorem lengthTaken (s : State) : KeepsStreams s (lengthTaken s) := ⟨⟨rfl, rfl, rfl, rfl, rfl, rfl⟩, rfl, rfl⟩

theorem setDrvState (s : State) (d : DrvState) : KeepsStreams s (s.setDrvState d) :=
  ⟨⟨rfl, rfl, rfl, rfl, rfl, rfl⟩, rfl, rfl⟩

theorem enterFailed (s : State) (c : FailCause) (e : Event) : KeepsStreams s (s.enterFailed c e) :=
  ⟨⟨rfl, rfl, rfl, rfl, rfl, rfl⟩, rfl, rfl⟩

theorem enterRecovery (s : State) : KeepsStreams s s.enterRecovery := ⟨⟨rfl, rfl, rfl, rfl, rfl, rfl⟩, rfl, rfl⟩

theorem lockAt (s : State) (i : Nat) : KeepsStreams s (s.lockAt i) := ⟨⟨rfl, rfl, rfl, rfl, rfl, rfl⟩, rfl, rfl⟩

theorem loseWindow (s : State) : KeepsStreams s s.loseWindow := by
  rw [loseWindow_eq]
  exact ⟨⟨rfl, rfl, rfl, rfl, rfl, rfl⟩, rfl, rfl⟩

theorem losePacket (s : State) : KeepsStreams s s.losePacket := by
  rw [losePacket_eq]
  exact ⟨⟨rfl, rfl, rfl, rfl, rfl, rfl⟩, rfl, rfl⟩

theorem searched (s : State) : KeepsStreams s (searched s) := by
  rw [searched_eq]
  exact ⟨⟨rfl, rfl, rfl, rfl, rfl, rfl⟩, rfl, rfl⟩

theorem fetched (s : State) : KeepsStreams s (fetched s) := by
  rw [fetched_eq]
  exact ⟨⟨rfl, rfl, rfl, rfl, rfl, rfl⟩, rfl, rfl⟩

theorem searchMiss (s : State) : KeepsStreams s (searchMiss s) := by
  rw [searchMiss_eq]
  split <;> exact ⟨⟨rfl, rfl, rfl, rfl, rfl, rfl⟩, rfl, rfl⟩

theorem deliver (s : State) (r : PacketResult) : KeepsStreams s (s.deliver r) := by
  rw [deliver_eq]
  exact ⟨⟨rfl, rfl, rfl, rfl, rfl, rfl⟩, rfl, rfl⟩

end KeepsStreams

/-! ### The steps -/

/-- A locked step before its append: the packet at CURSOR descrambled (R169). -/
def packetDelivered (s : State) : State := (fetched s).deliver (decrypt (packetAt s.src s.cursor.toNat) s.key)

theorem packetConsumed_eq (s : State) : packetConsumed s = appendPacket (packetDelivered s) := rfl

theorem KeepsStreams.packetDelivered (s : State) : KeepsStreams s (packetDelivered s) :=
  (KeepsStreams.fetched s).trans (.deliver _ _)

theorem packetDelivered_o (s : State) : (packetDelivered s).o = decryptedAt s.src s.key s.cursor.toNat := by
  rw [packetDelivered, deliver_eq]
  rfl

theorem packetDelivered_cursor (s : State) : (packetDelivered s).cursor = s.cursor := by
  rw [packetDelivered, deliver_eq]
  rfl

/-- The append adds O and moves CURSOR, or it fails and both are left (R169, R198). -/
theorem appendPacket_streams (s : State) :
    KeepsStreams s (appendPacket s) ∧ (appendPacket s).cursor = s.cursor ∨
    CoreFrame s (appendPacket s) ∧ AppendsPacket s (appendPacket s) s.o ∧ (appendPacket s).cursor = s.cursor + 188#64 := by
  rcases ok_or_err s.nextStatus with hok | herr
  · rw [appendPacket_ok s hok]
    exact .inr ⟨⟨rfl, rfl, rfl, rfl, rfl, rfl⟩, ⟨rfl, rfl⟩, rfl⟩
  · rw [appendPacket_err s herr]
    exact .inl ⟨⟨⟨rfl, rfl, rfl, rfl, rfl, rfl⟩, rfl, rfl⟩, rfl⟩

/-- LEAD_OK consumes the packet at CURSOR, or leaves the streams and CURSOR (R169, R198). -/
theorem packetConsumed_streams {s : State} (hfit : s.cursor.toNat + 188 ≤ s.srcLen.toNat) :
    KeepsStreams s (packetConsumed s) ∧ (packetConsumed s).cursor = s.cursor ∨ ConsumesPacket s (packetConsumed s) := by
  have hbefore := KeepsStreams.packetDelivered s
  rw [packetConsumed_eq]
  rcases appendPacket_streams (packetDelivered s) with ⟨hkeep, hstays⟩ | ⟨hframe, ⟨hsnk, hlen⟩, hmoved⟩
  · exact .inl ⟨hbefore.trans hkeep, hstays.trans (packetDelivered_cursor s)⟩
  · rw [hbefore.snk, hbefore.snkLen, packetDelivered_o] at hsnk
    rw [hbefore.snkLen] at hlen
    rw [packetDelivered_cursor] at hmoved
    have hnext := offset_add_188 (Nat.lt_of_le_of_lt hfit (offset_lt s.srcLen))
    exact .inr ⟨hbefore.toCoreFrame.trans hframe, hfit, ⟨hsnk, hlen⟩, (congrArg BitVec.toNat hmoved).trans hnext⟩

/-- A core step leaves the streams, or consumes the packet at CURSOR (R54, R71). -/
theorem CoreCase.streams {s t : State} (hc : CoreCase s t) : KeepsStreams s t ∨ ConsumesPacket s t := by
  cases hc with
  | waits h => exact .inl (.refl s)
  | initOk hd hs hok => exact .inl (.lengthTaken s)
  | initErr hd hs herr => exact .inl ((KeepsStreams.afterSrcLen s).trans (.enterFailed _ _ _))
  | searchErr hd ha herr =>
    exact .inl ((KeepsStreams.afterRead s _ _).trans ((KeepsStreams.loseWindow _).trans (.enterFailed _ _ _)))
  | searchHit hd ha hok i hscan => exact .inl ((KeepsStreams.searched s).trans (.lockAt _ i))
  | searchNone hd ha hok hscan => exact .inl ((KeepsStreams.searched s).trans (.searchMiss _))
  | streamEnd hd hlen => exact .inl (.setDrvState s _)
  | packetErr hd hlen ha herr =>
    exact .inl ((KeepsStreams.afterRead s _ _).trans ((KeepsStreams.losePacket _).trans (.enterFailed _ _ _)))
  | packetOk hd hlen hok hfit hlead => exact (packetConsumed_streams hfit).imp_left And.left
  | packetLoss hd hlen hok hfit hlead => exact .inl ((KeepsStreams.fetched s).trans (.enterRecovery _))

theorem CoreCase.frame {s t : State} (hc : CoreCase s t) : CoreFrame s t := by
  rcases hc.streams with hkeep | hpacket
  · exact hkeep.toCoreFrame
  · exact hpacket.toCoreFrame

/-- During a run the source is left; the sink is left, or a packet is appended (R54, R55, R68). -/
def StreamsStep (s t : State) : Prop :=
  (runGoesOn s = true → t.src = s.src ∧ t.srcLen = s.srcLen) ∧
    (t.snk = s.snk ∧ t.snkLen = s.snkLen ∨ ∃ out, AppendsPacket s t out)

theorem CoreCase.streamsStep {s t : State} (hc : CoreCase s t) : StreamsStep s t :=
  ⟨fun _ => ⟨hc.frame.src, hc.frame.srcLen⟩, hc.streams.imp (fun h => ⟨h.snk, h.snkLen⟩) fun h => ⟨_, h.appends⟩⟩

/-- Reset and start touch neither stream; an attach changes the source, between runs only (R220, R222, R224). -/
theorem HostCase.streamsStep {s t : State} {a : HostAct} (hc : HostCase s a t) : StreamsStep s t := by
  cases hc with
  | idle h => exact h.streamsStep
  | rst => exact ⟨fun _ => ⟨rfl, rfl⟩, .inl ⟨rfl, rfl⟩⟩
  | start k =>
    unfold startStep
    split <;> exact ⟨fun _ => ⟨rfl, rfl⟩, .inl ⟨rfl, rfl⟩⟩
  | attach l hrun hlen => exact ⟨fun h => absurd h (by simp [hrun]), .inl ⟨rfl, rfl⟩⟩

theorem step_streamsStep {s t : State} (h : step s = .next t) : StreamsStep s t := by
  rcases (step_iff s t).mp h with ⟨-, hcore⟩ | ⟨a, rest, -, hhost⟩
  · exact hcore.streamsStep
  · obtain ⟨hsrc, hsnk⟩ := hhost.streamsStep
    exact ⟨hsrc, hsnk.imp_right fun ⟨out, hsnk, hlen⟩ => ⟨out, hsnk, hlen⟩⟩

/-- Settles O50: a step touches the sink by an append alone, and an append writes past the bytes that are there. -/
theorem sourceIsFixedAndSinkOnlyGrows : Obligations.SourceIsFixedAndSinkOnlyGrows := by
  intro s t h hstep
  obtain ⟨hsrc, ⟨hsnk, hlen⟩ | ⟨out, hsnk, hlen⟩⟩ := step_streamsStep hstep
  · exact ⟨hsrc, .inl ⟨hlen, hsnk⟩, fun a _ => by rw [hsnk]⟩
  · refine ⟨hsrc, .inr hlen, fun a ha => ?_⟩
    rw [hsnk, Memory.read_writeBytes _ _ _ _ h.snkWf, if_neg (by omega)]

end Sys2Proof.Machine
end

section
/-! PROOFS. The output relation (20_memory.md R71): along core steps the sink grows by decrypt of the packets consumed, in source
order. -/

namespace Sys2Proof.Machine

/-! ### The sink's bytes over one step -/

/-- All bytes of the sink, in order (R54). -/
def sinkBytes (s : State) : List Byte := s.snk.readBytes 0 s.snkLen

@[simp] theorem sinkBytes_length (s : State) : (sinkBytes s).length = s.snkLen := Memory.readBytes_length _ _ _

theorem KeepsStreams.sinkBytes {s t : State} (h : KeepsStreams s t) : sinkBytes t = sinkBytes s := by
  rw [Machine.sinkBytes, h.snk, h.snkLen, Machine.sinkBytes]

/-- An append leaves the bytes that were there and adds the packet (R55). -/
theorem AppendsPacket.sinkBytes {s t : State} {out : Packet} (h : AppendsPacket s t out) (hwf : s.snk.wf = true) :
    sinkBytes t = sinkBytes s ++ out.toList := by
  have hout : out.toList.length = 188 := toList_length out
  rw [Machine.sinkBytes, h.snk, h.snkLen, Memory.readBytes_add, Memory.readBytes_writeBytes_below hwf, Nat.zero_add, ← hout,
    Memory.readBytes_writeBytes_same hwf, Machine.sinkBytes]

/-- CURSOR never goes back in a core step (R23, R45). -/
theorem Inv.cursor_le_of_coreCase {s t : State} (h : Inv s) (hc : CoreCase s t) : s.cursor.toNat ≤ t.cursor.toNat := by
  cases hc with
  | waits _ => exact le_refl _
  | initOk hd hs hok =>
    rw [(h.initZero hd).1]
    exact Nat.zero_le _
  | initErr hd hs herr => exact le_refl _
  | searchErr hd ha herr =>
    rw [enterFailed_eq, loseWindow_eq]
    exact le_refl _
  | searchHit hd ha hok i hscan =>
    have hi := (scan_some hscan).1
    have hmax := offset_lt s.srcLen
    rw [searched_wlen] at hi
    rw [lockAt_eq, searched_cursor, offset_add (by omega)]
    exact Nat.le_add_right _ _
  | searchNone hd ha hok hscan =>
    rw [searchMiss_eq]
    split <;> exact (congrArg BitVec.toNat (searched_cursor s)).ge
  | streamEnd hd hlen => exact le_refl _
  | packetErr hd hlen ha herr =>
    rw [enterFailed_eq, losePacket_eq]
    exact le_refl _
  | packetOk hd hlen hok hfit hlead =>
    rcases packetConsumed_streams hfit with ⟨-, hstays⟩ | hpacket
    · exact (congrArg BitVec.toNat hstays).ge
    · exact hpacket.cursor ▸ Nat.le_add_right _ _
  | packetLoss hd hlen hok hfit hlead => exact le_refl _

/-! ### What `k` core steps do -/

theorem steps_succ {k : Nat} {s t : State} (h : steps (k + 1) s = .next t) :
    ∃ u, step s = .next u ∧ steps k u = .next t := by
  unfold steps at h
  split at h
  · exact ⟨_, ‹_›, h⟩
  · cases h
  · cases h

/-- A step that leaves the sink consumes nothing. -/
theorem consumedOffsets_keeps {k : Nat} {s u : State} (h : step s = .next u) (hkeep : KeepsStreams s u) :
    consumedOffsets (k + 1) s = consumedOffsets k u := by
  rw [consumedOffsets, h]
  exact if_pos hkeep.snkLen

/-- A step that consumes a packet does so at CURSOR. -/
theorem consumedOffsets_consumes {k : Nat} {s u : State} (h : step s = .next u) (hpacket : ConsumesPacket s u) :
    consumedOffsets (k + 1) s = s.cursor.toNat :: consumedOffsets k u := by
  rw [consumedOffsets, h]
  exact if_neg (by rw [hpacket.appends.snkLen]; omega)

/-- What a run from `s` to `t` with the consuming offsets `offs` has done (R71). -/
structure RunOutput (s t : State) (offs : List Nat) : Prop where
  inv : Inv t
  frame : CoreFrame s t
  rising : offs.Pairwise (fun a b => a < b)
  fromCursor : ∀ a ∈ offs, s.cursor.toNat ≤ a
  room : 188 * offs.length ≤ s.srcLen.toNat - s.cursor.toNat
  sink : sinkBytes t = sinkBytes s ++ offs.flatMap fun a => (decryptedAt s.src s.key a).toList

namespace RunOutput

variable {s u t : State} {offs : List Nat}

theorem refl (h : Inv s) : RunOutput s s [] where
  inv := h
  frame := .refl s
  rising := .nil
  fromCursor := by simp
  room := by simp
  sink := by simp

/-- A step that leaves the streams, before a run. -/
theorem keeps (hkeep : KeepsStreams s u) (hcursor : s.cursor.toNat ≤ u.cursor.toNat) (hrun : RunOutput u t offs) :
    RunOutput s t offs where
  inv := hrun.inv
  frame := hkeep.toCoreFrame.trans hrun.frame
  rising := hrun.rising
  fromCursor := fun a ha => hcursor.trans (hrun.fromCursor a ha)
  room := by
    have := hrun.room
    rw [hkeep.srcLen] at this
    omega
  sink := by rw [hrun.sink, hkeep.sinkBytes, hkeep.src, hkeep.key]

/-- A step that consumes a packet, before a run: its offset lies below the run's. -/
theorem consumes (h : Inv s) (hpacket : ConsumesPacket s u) (hrun : RunOutput u t offs) :
    RunOutput s t (s.cursor.toNat :: offs) := by
  have hbelow : ∀ a ∈ offs, s.cursor.toNat < a := fun a ha => by
    have := hrun.fromCursor a ha
    rw [hpacket.cursor] at this
    omega
  have hroom := hrun.room
  rw [hpacket.srcLen, hpacket.cursor] at hroom
  have hfits := hpacket.fits
  exact {
    inv := hrun.inv
    frame := hpacket.toCoreFrame.trans hrun.frame
    rising := List.pairwise_cons.mpr ⟨hbelow, hrun.rising⟩
    fromCursor := List.forall_mem_cons.mpr ⟨le_refl _, fun a ha => (hbelow a ha).le⟩
    room := by
      rw [List.length_cons]
      omega
    sink := by
      rw [hrun.sink, hpacket.appends.sinkBytes h.snkWf, hpacket.src, hpacket.key, List.flatMap_cons, List.append_assoc] }

end RunOutput

/-- Along any number of core steps the output relation holds (R71). -/
theorem Inv.runOutput {k : Nat} {s t : State} (h : Inv s) (hhost : s.host = []) (hrun : steps k s = .next t) :
    RunOutput s t (consumedOffsets k s) := by
  induction k generalizing s with
  | zero =>
    cases hrun
    exact .refl h
  | succ k ih =>
    obtain ⟨u, hstep, hrest⟩ := steps_succ hrun
    have hc : CoreCase s u := (coreStep_iff s u).mp (step_quiet s hhost ▸ hstep)
    have hu : RunOutput u t (consumedOffsets k u) := ih (h.coreCase hc) (hc.frame.host.trans hhost) hrest
    rcases hc.streams with hkeep | hpacket
    · rw [consumedOffsets_keeps hstep hkeep]
      exact hu.keeps hkeep (h.cursor_le_of_coreCase hc)
    · rw [consumedOffsets_consumes hstep hpacket]
      exact hu.consumes h hpacket

/-! ### What the output relation says of the sink's length, its bytes and BYTES_WRITTEN -/

/-- Each decrypted packet is 188 bytes long (R32). -/
theorem decrypted_length (m : Memory) (key : Key) (offs : List Nat) :
    (offs.flatMap fun a => (decryptedAt m key a).toList).length = 188 * offs.length := by
  simp [List.length_flatMap, Nat.mul_comm]

namespace RunOutput

variable {s t : State} {offs : List Nat}

theorem snkLen (h : RunOutput s t offs) : t.snkLen = s.snkLen + 188 * offs.length := by
  have := congrArg List.length h.sink
  rwa [List.length_append, sinkBytes_length, sinkBytes_length, decrypted_length] at this

/-- The bytes the run added, and those before them. -/
theorem sink_split (h : RunOutput s t offs) :
    t.snk.readBytes 0 s.snkLen = s.snk.readBytes 0 s.snkLen ∧
      t.snk.readBytes s.snkLen (188 * offs.length) = offs.flatMap fun a => (decryptedAt s.src s.key a).toList := by
  have hsink := h.sink
  rw [sinkBytes, h.snkLen, Memory.readBytes_add, Nat.zero_add] at hsink
  exact List.append_inj hsink (by simp)

/-- BYTES_WRITTEN counts the sink from `runBase` on (R44 (g)), which no core step moves. -/
theorem bytesWritten (h : RunOutput s t offs) (hs : Inv s) (hstarted : s.started = true) :
    t.bytesWritten.toNat = s.bytesWritten.toNat + 188 * offs.length := by
  have hbefore := hs.sinkCount hstarted
  have hafter := h.inv.sinkCount (h.frame.started.trans hstarted)
  have := h.snkLen
  rw [h.frame.runBase] at hafter
  omega

end RunOutput

/-- Settles O38: by induction on the steps, each of which leaves the streams or consumes the packet at CURSOR. -/
theorem sinkHoldsTheDecryptedPacketsInOrder : Obligations.SinkHoldsTheDecryptedPacketsInOrder := by
  intro k s t h hhost hrun offs
  have hout : RunOutput s t offs := h.runOutput hhost hrun
  obtain ⟨hbefore, hadded⟩ := hout.sink_split
  exact ⟨hout.rising, hout.snkLen, hadded, hbefore, hout.bytesWritten h, hout.room.trans (Nat.sub_le _ _)⟩

end Sys2Proof.Machine
end

section
/-! PROOFS. The reads a step records, and what a read answers (20_memory.md R53, R70). -/

namespace Sys2Proof.Machine

/-- A record that, if it is a read, is one of the two a step issues: the window read in SEARCHING, or the read of a packet that is
there in LOCKED (R141, R166). -/
def IssuableRead (s : State) (x : Txn) : Prop :=
  ∀ (a : Offset) (n : Nat) (b : Option (List Byte)), x = .read a n b →
    a = s.cursor ∧ (n = 1024 ∧ s.drvState = .searching ∨
      n = 188 ∧ s.drvState = .locked ∧ 188 ≤ s.len.toNat - s.cursor.toNat ∧ ∀ l, b = some l → l.length = 188)

/-- Every record that `t` has after those of `s`, if it is a read, is one that a step from `s` issues. -/
def IssuesReads (s t : State) : Prop := ∃ l, t.trace = s.trace ++ l ∧ ∀ x ∈ l, IssuableRead s x

theorem issuableRead_len (s : State) (n : Option Offset) : IssuableRead s (.len n) := by
  intro _ _ _ h
  cases h

theorem issuableRead_cipher (s : State) (c : Block) (k : Key) (d : Block) : IssuableRead s (.cipher c k d) := by
  intro _ _ _ h
  cases h

theorem issuableRead_write (s : State) (a : Offset) (v : Packet) (side : Sideband) (st : IoStatus) :
    IssuableRead s (.write a v side st) := by
  intro _ _ _ h
  cases h

theorem issuableRead_window {s : State} (hd : s.drvState = .searching) (b : Option (List Byte)) :
    IssuableRead s (.read s.cursor 1024 b) := by
  rintro _ _ _ ⟨⟩
  exact ⟨rfl, .inl ⟨rfl, hd⟩⟩

theorem issuableRead_packet {s : State} (hd : s.drvState = .locked) (hlen : 188 ≤ s.len.toNat - s.cursor.toNat)
    {b : Option (List Byte)} (hb : ∀ l, b = some l → l.length = 188) : IssuableRead s (.read s.cursor 188 b) := by
  rintro _ _ _ ⟨⟩
  exact ⟨rfl, .inr ⟨rfl, hd, hlen, hb⟩⟩

/-- A packet read that is answered brings 188 bytes when they are there (R53). -/
theorem readAnswer_packet_length {s : State} (hfit : s.cursor.toNat + 188 ≤ s.srcLen.toNat) :
    ∀ l, s.readAnswer s.cursor 188 = some l → l.length = 188 := by
  intro l hl
  rcases ok_or_err s.nextStatus with hok | herr
  · rw [readAnswer_ok s _ _ hok, Option.some.injEq] at hl
    rw [← hl, Memory.readBytes_length]
    omega
  · rw [readAnswer_err s _ _ herr] at hl
    cases hl

/-- The descrambler issues cipher calls alone (R123). -/
theorem decrypt_calls_cipher (p : Packet) (key : Key) : ∀ x ∈ (decrypt p key).calls, ∃ c d, x = .cipher c key d := by
  have hloop (ps : Nat) : ∀ x ∈ (cbcEnd Config.decryptBlock key p ps).calls, ∃ c d, x = .cipher c key d := by
    simp [cbcEnd, cbcLoop_calls, cbcStart, cipherCall]
  unfold decrypt decryptWith
  cases classOf p with
  | reject h => simp [verbatim]
  | passClear h => simp [verbatim]
  | passRsvd h => simp [verbatim]
  | descNoaf h => exact hloop _
  | descAf h l => exact hloop _

/-- An append records one write, whatever its status (R55, R70). -/
theorem appendPacket_trace (s : State) :
    ∃ st, (appendPacket s).trace = s.trace ++ [.write s.bytesWritten s.o s.sideband st] := by
  rcases ok_or_err s.nextStatus with hok | herr
  · exact ⟨.ok, by rw [appendPacket_ok s hok]⟩
  · exact ⟨.err, by rw [appendPacket_err s herr]⟩

theorem packetDelivered_trace (s : State) : (packetDelivered s).trace =
    s.trace ++ [.read s.cursor 188 (s.readAnswer s.cursor 188)] ++ (decrypt (packetAt s.src s.cursor.toNat) s.key).calls := by
  rw [packetDelivered, deliver_eq]
  rfl

/-- The trace over LEAD_OK: the packet read, the descrambler's calls, the append (R70). -/
theorem packetConsumed_trace (s : State) : ∃ n v side st,
    (packetConsumed s).trace = s.trace ++ (.read s.cursor 188 (s.readAnswer s.cursor 188) ::
      ((decrypt (packetAt s.src s.cursor.toNat) s.key).calls ++ [.write n v side st])) := by
  obtain ⟨st, hwrite⟩ := appendPacket_trace (packetDelivered s)
  rw [packetDelivered_trace, List.append_assoc, List.append_assoc] at hwrite
  exact ⟨_, _, _, st, hwrite⟩

namespace IssuesReads

theorem of_trace_eq {s t : State} (h : t.trace = s.trace) : IssuesReads s t :=
  ⟨[], h.trans (List.append_nil _).symm, fun _ hx => (List.not_mem_nil hx).elim⟩

theorem of_trace_one {s t : State} {x : Txn} (h : t.trace = s.trace ++ [x]) (hx : IssuableRead s x) : IssuesReads s t :=
  ⟨[x], h, List.forall_mem_singleton.mpr hx⟩

theorem packetConsumed {s : State} (hd : s.drvState = .locked) (hlen : 188 ≤ s.len.toNat - s.cursor.toNat)
    (hfit : s.cursor.toNat + 188 ≤ s.srcLen.toNat) : IssuesReads s (packetConsumed s) := by
  obtain ⟨n, v, side, st, htrace⟩ := packetConsumed_trace s
  refine ⟨_, htrace, List.forall_mem_cons.mpr ⟨issuableRead_packet hd hlen (readAnswer_packet_length hfit), ?_⟩⟩
  refine List.forall_mem_append.mpr ⟨fun x hx => ?_, List.forall_mem_singleton.mpr (issuableRead_write s n v side st)⟩
  obtain ⟨c, d, rfl⟩ := decrypt_calls_cipher _ _ x hx
  exact issuableRead_cipher s c _ d

end IssuesReads

/-- A search records its window read alone (R163). -/
theorem searched_trace (s : State) :
    (searched s).trace = s.trace ++ [.read s.cursor 1024 (s.readAnswer s.cursor 1024)] := by
  rw [searched_eq]

theorem searchMiss_trace (s : State) : (searchMiss s).trace = s.trace := by
  rw [searchMiss_eq]
  split <;> rfl

theorem CoreCase.issuesReads {s t : State} (hc : CoreCase s t) : IssuesReads s t := by
  cases hc with
  | waits h => exact .of_trace_eq rfl
  | initOk hd hs hok => exact .of_trace_one rfl (issuableRead_len s _)
  | initErr hd hs herr => exact .of_trace_one rfl (issuableRead_len s _)
  | searchErr hd ha herr =>
    rw [enterFailed_eq, loseWindow_eq]
    exact .of_trace_one rfl (issuableRead_window hd _)
  | searchHit hd ha hok i hscan => exact .of_trace_one (searched_trace s) (issuableRead_window hd _)
  | searchNone hd ha hok hscan =>
    exact .of_trace_one ((searchMiss_trace _).trans (searched_trace s)) (issuableRead_window hd _)
  | streamEnd hd hlen => exact .of_trace_eq rfl
  | packetErr hd hlen ha herr =>
    rw [enterFailed_eq, losePacket_eq]
    refine .of_trace_one rfl (issuableRead_packet hd hlen fun l hl => ?_)
    rw [readAnswer_err s _ _ herr] at hl
    cases hl
  | packetOk hd hlen hok hfit hlead => exact .packetConsumed hd hlen hfit
  | packetLoss hd hlen hok hfit hlead =>
    exact .of_trace_one rfl (issuableRead_packet hd hlen (readAnswer_packet_length hfit))

theorem step_issuesReads {s t : State} (h : step s = .next t) : IssuesReads s t := by
  rcases (step_iff s t).mp h with ⟨-, hcore⟩ | ⟨a, rest, -, hhost⟩
  · exact hcore.issuesReads
  · cases hhost with
    | idle hcore => exact hcore.issuesReads
    | rst => exact .of_trace_eq rfl
    | start k =>
      unfold startStep
      split <;> exact .of_trace_eq rfl
    | attach l hrun hlen => exact .of_trace_eq rfl

/-- Settles O56: the records a step adds, and the answer of a read inside the source. -/
theorem readAnswersTheBytesThatExist : Obligations.ReadAnswersTheBytesThatExist := by
  refine ⟨fun s t hstep a n b hmem => ?_, fun s a n ha => ⟨fun hok => ?_, fun herr => ?_⟩⟩
  · obtain ⟨l, htrace, hl⟩ := step_issuesReads hstep
    rw [htrace, List.drop_left] at hmem
    exact hl _ hmem a n b rfl
  · refine ⟨s.src.readBytes a.toNat (min n (s.srcLen.toNat - a.toNat)), ?_, by simp, fun t ht => ?_⟩
    · rw [memRead_inside s a n ha, afterRead_eq, readAnswer_ok s a n hok]
    · rw [Memory.readBytes_length] at ht
      exact Memory.readBytes_getD _ _ _ ht
  · rw [memRead_inside s a n ha, afterRead_eq, readAnswer_err s a n herr]

end Sys2Proof.Machine
end

section
/-! PROOFS. The header fields (30_encoding.md R81 to R90): the encoder's bytes have the fields they were built from, and a byte is
rebuilt from its fields; the class decode said once, case by case (R88); the round trips of the decoder. -/

namespace Sys2Proof

/-! ### Fields of the encoder's bytes, and bytes from their fields (R81) -/

@[simp] theorem pusiOf_encodeByte1 (pusi : Bool) (u : Unnamed) : pusiOf (encodeByte1 pusi u) = pusi := by
  have hbits : ∀ (hi : BitVec 1) (pusi : Bool) (lo : BitVec 6), pusiOf (hi ++ BitVec.ofBool pusi ++ lo) = pusi := by decide
  exact hbits u.b1hi pusi u.b1lo

@[simp] theorem scOf_encodeByte3 (sc : BitVec 2) (af : Bool) (u : Unnamed) : scOf (encodeByte3 sc af u) = sc ++ 0#6 :=
  Laws.RowMatch.byte3_sc sc af u.b3lo

@[simp] theorem afOf_encodeByte3 (sc : BitVec 2) (af : Bool) (u : Unnamed) : afOf (encodeByte3 sc af u) = af := by
  have hbits : ∀ (sc : BitVec 2) (af : Bool) (lo : BitVec 5), afOf (sc ++ BitVec.ofBool af ++ lo) = af := by decide
  exact hbits sc af u.b3lo

@[simp] theorem parityOf_encodeByte3 (parity af : Bool) (u : Unnamed) :
    parityOf (encodeByte3 (scScrambled parity) af u) = parity := by
  have hbits : ∀ (parity af : Bool) (lo : BitVec 5),
      parityOf (scScrambled parity ++ BitVec.ofBool af ++ lo) = parity := by decide
  exact hbits parity af u.b3lo

/-- The encoder puts every unnamed bit where the decoder reads it (R95). -/
@[simp] theorem unnamedOf_encode (pusi af : Bool) (sc : BitVec 2) (u : Unnamed) :
    unnamedOf (encodeByte1 pusi u) u.b2 (encodeByte3 sc af u) = u := by
  obtain ⟨hi, lo1, b2, lo3⟩ := u
  have hbyte1 : (hi ++ BitVec.ofBool pusi ++ lo1 : Byte).extractLsb' 7 1 = hi ∧
      (hi ++ BitVec.ofBool pusi ++ lo1 : Byte).extractLsb' 0 6 = lo1 := by
    revert hi pusi lo1
    decide
  have hbyte3 : (sc ++ BitVec.ofBool af ++ lo3 : Byte).extractLsb' 0 5 = lo3 := by
    revert sc af lo3
    decide
  simp only [unnamedOf, encodeByte1, encodeByte3, hbyte1, hbyte3]

theorem encodeByte1_of_fields (b1 b2 b3 : Byte) : encodeByte1 (pusiOf b1) (unnamedOf b1 b2 b3) = b1 := by
  have hbyte : ∀ b : Byte, b.extractLsb' 7 1 ++ BitVec.ofBool (pusiOf b) ++ b.extractLsb' 0 6 = b := by decide
  exact hbyte b1

theorem encodeByte3_of_fields (b1 b2 : Byte) {b3 : Byte} {sc : BitVec 2} (h : scOf b3 = sc ++ 0#6) :
    encodeByte3 sc (afOf b3) (unnamedOf b1 b2 b3) = b3 := by
  have hbyte : ∀ (b : Byte) (sc : BitVec 2), scOf b = sc ++ 0#6 →
      sc ++ BitVec.ofBool (afOf b) ++ b.extractLsb' 0 5 = b := by decide
  exact hbyte b3 sc h

/-- A scrambled value of sc is `1x`, x the parity (R84, R90). -/
theorem scOf_eq_scrambled {b3 : Byte} (h0 : scOf b3 ≠ 0x00#8) (h1 : scOf b3 ≠ 0x40#8) :
    scOf b3 = scScrambled (parityOf b3) ++ 0#6 := by
  revert b3
  decide

/-- Neither scrambled value is one of the two others (R84). -/
theorem scScrambled_ne (parity : Bool) :
    scScrambled parity ++ 0#6 ≠ 0x00#8 ∧ scScrambled parity ++ 0#6 ≠ 0x40#8 := by
  revert parity
  decide

/-! ### The class decode, said once (R88) -/

/-- Every way a header is decoded, with the operands its class carries. -/
inductive HeaderCase (b0 b1 b2 b3 b4 : Byte) : PacketClass → Prop where
  | reject (h0 : b0 ≠ Config.SYNC) : HeaderCase b0 b1 b2 b3 b4 (.reject { b0 := b0, b1 := b1, b2 := b2, b3 := b3 })
  | passClear (h0 : b0 = Config.SYNC) (hsc : scOf b3 = 0x00#8) :
      HeaderCase b0 b1 b2 b3 b4 (.passClear (passHeaderOf b1 b2 b3))
  | passRsvd (h0 : b0 = Config.SYNC) (hsc : scOf b3 = 0x40#8) :
      HeaderCase b0 b1 b2 b3 b4 (.passRsvd (passHeaderOf b1 b2 b3))
  | descNoaf (h0 : b0 = Config.SYNC) (hclear : scOf b3 ≠ 0x00#8) (hrsvd : scOf b3 ≠ 0x40#8) (haf : afOf b3 = false) :
      HeaderCase b0 b1 b2 b3 b4 (.descNoaf (descHeaderOf b1 b2 b3))
  | descAf (h0 : b0 = Config.SYNC) (hclear : scOf b3 ≠ 0x00#8) (hrsvd : scOf b3 ≠ 0x40#8) (haf : afOf b3 = true) :
      HeaderCase b0 b1 b2 b3 b4 (.descAf (descHeaderOf b1 b2 b3) b4)

/-- The decoded class is one of these cases. -/
theorem headerCase_classOfHeader (b0 b1 b2 b3 b4 : Byte) : HeaderCase b0 b1 b2 b3 b4 (classOfHeader b0 b1 b2 b3 b4) := by
  unfold classOfHeader
  split
  case isTrue h0 => exact .reject h0
  case isFalse h0 =>
    have h0 := not_not.mp h0
    split
    case isTrue hsc => exact .passClear h0 hsc
    case isFalse hclear =>
      split
      case isTrue hsc => exact .passRsvd h0 hsc
      case isFalse hrsvd =>
        split
        case isTrue haf => exact .descNoaf h0 hclear hrsvd haf
        case isFalse haf => exact .descAf h0 hclear hrsvd (by simpa using haf)

/-- The case a header is in gives its class. -/
theorem HeaderCase.classOfHeader_eq {b0 b1 b2 b3 b4 : Byte} {c : PacketClass} (h : HeaderCase b0 b1 b2 b3 b4 c) :
    classOfHeader b0 b1 b2 b3 b4 = c := by
  unfold classOfHeader
  cases h with
  | reject h0 => rw [if_pos h0]
  | passClear h0 hsc => rw [if_neg (not_not.mpr h0), if_pos hsc]
  | passRsvd h0 hsc => rw [if_neg (not_not.mpr h0), if_neg (by simp [hsc]), if_pos hsc]
  | descNoaf h0 hclear hrsvd haf => rw [if_neg (not_not.mpr h0), if_neg hclear, if_neg hrsvd, if_pos haf]
  | descAf h0 hclear hrsvd haf =>
    rw [if_neg (not_not.mpr h0), if_neg hclear, if_neg hrsvd, if_neg (by simp [haf])]

/-! ### The round trips (R81, R95, R98, R100) -/

/-- Four bytes are a whole header where the class has no length byte (R81). -/
theorem decodeTshdr_four {b0 b1 b2 b3 : Byte} {c : PacketClass} (h : HeaderCase b0 b1 b2 b3 0 c)
    (hlen : ∀ d l, c ≠ .descAf d l) : decode .tshdr [b0, b1, b2, b3] = .ok c.toInstr := by
  simp only [decode, decodeTshdr, h.classOfHeader_eq]
  cases c with
  | descAf d l => exact absurd rfl (hlen d l)
  | passClear d => rfl
  | passRsvd d => rfl
  | descNoaf d => rfl
  | reject d => rfl

/-- With a fifth byte every header decodes (R86). -/
theorem decodeTshdr_five {b0 b1 b2 b3 b4 : Byte} {c : PacketClass} (h : HeaderCase b0 b1 b2 b3 b4 c) (l : List Byte) :
    decode .tshdr (b0 :: b1 :: b2 :: b3 :: b4 :: l) = .ok c.toInstr := by
  simp only [decode, decodeTshdr, h.classOfHeader_eq]

/-! #### Each TSHDR row's encoding is in the header case of that row -/

theorem headerCase_encode_passClear (h : PassHeader) (b4 : Byte) :
    HeaderCase Config.SYNC (encodeByte1 h.pusi h.rest) h.rest.b2 (encodeByte3 0b00#2 h.af h.rest) b4 (.passClear h) := by
  simpa [passHeaderOf] using HeaderCase.passClear (b1 := encodeByte1 h.pusi h.rest) (b2 := h.rest.b2) (b4 := b4) rfl
    (scOf_encodeByte3 0b00#2 h.af h.rest)

theorem headerCase_encode_passRsvd (h : PassHeader) (b4 : Byte) :
    HeaderCase Config.SYNC (encodeByte1 h.pusi h.rest) h.rest.b2 (encodeByte3 0b01#2 h.af h.rest) b4 (.passRsvd h) := by
  simpa [passHeaderOf] using HeaderCase.passRsvd (b1 := encodeByte1 h.pusi h.rest) (b2 := h.rest.b2) (b4 := b4) rfl
    (scOf_encodeByte3 0b01#2 h.af h.rest)

/-- Byte 3 of a scrambled row holds neither sc value of a pass row (R84). -/
theorem scOf_encode_scrambled (parity af : Bool) (u : Unnamed) :
    scOf (encodeByte3 (scScrambled parity) af u) ≠ 0x00#8 ∧ scOf (encodeByte3 (scScrambled parity) af u) ≠ 0x40#8 := by
  rw [scOf_encodeByte3]
  exact scScrambled_ne parity

theorem headerCase_encode_descNoaf (h : DescHeader) (b4 : Byte) :
    HeaderCase Config.SYNC (encodeByte1 h.pusi h.rest) h.rest.b2 (encodeByte3 (scScrambled h.parity) false h.rest) b4
      (.descNoaf h) := by
  obtain ⟨hclear, hrsvd⟩ := scOf_encode_scrambled h.parity false h.rest
  simpa [descHeaderOf] using HeaderCase.descNoaf (b1 := encodeByte1 h.pusi h.rest) (b2 := h.rest.b2) (b4 := b4) rfl
    hclear hrsvd (afOf_encodeByte3 _ _ _)

theorem headerCase_encode_descAf (h : DescHeader) (afLen : Byte) :
    HeaderCase Config.SYNC (encodeByte1 h.pusi h.rest) h.rest.b2 (encodeByte3 (scScrambled h.parity) true h.rest) afLen
      (.descAf h afLen) := by
  obtain ⟨hclear, hrsvd⟩ := scOf_encode_scrambled h.parity true h.rest
  simpa [descHeaderOf] using HeaderCase.descAf (b1 := encodeByte1 h.pusi h.rest) (b2 := h.rest.b2) (b4 := afLen) rfl
    hclear hrsvd (afOf_encodeByte3 _ _ _)

/-! #### The bytes after the sync byte are rebuilt from the operands -/

theorem encode_passHeaderOf (b1 b2 : Byte) {b3 : Byte} {sc : BitVec 2} (h : scOf b3 = sc ++ 0#6) :
    [encodeByte1 (passHeaderOf b1 b2 b3).pusi (passHeaderOf b1 b2 b3).rest, (passHeaderOf b1 b2 b3).rest.b2,
      encodeByte3 sc (passHeaderOf b1 b2 b3).af (passHeaderOf b1 b2 b3).rest] = [b1, b2, b3] := by
  simp only [passHeaderOf, encodeByte1_of_fields, encodeByte3_of_fields b1 b2 h]
  rfl

theorem encode_descHeaderOf (b1 b2 : Byte) {b3 : Byte} {af : Bool} (hclear : scOf b3 ≠ 0x00#8) (hrsvd : scOf b3 ≠ 0x40#8)
    (haf : afOf b3 = af) :
    [encodeByte1 (descHeaderOf b1 b2 b3).pusi (descHeaderOf b1 b2 b3).rest, (descHeaderOf b1 b2 b3).rest.b2,
      encodeByte3 (scScrambled (descHeaderOf b1 b2 b3).parity) af (descHeaderOf b1 b2 b3).rest] = [b1, b2, b3] := by
  subst haf
  simp only [descHeaderOf, encodeByte1_of_fields, encodeByte3_of_fields b1 b2 (scOf_eq_scrambled hclear hrsvd)]
  rfl

/-! #### The format WIN3 -/

/-- The window bytes of a triple hold a triple (R100, R142). -/
theorem triple_encodeTriple {i : Nat} (h : i + Config.SPAN < Config.WIN) :
    triple (ofList Config.WIN (encodeTriple i)) i = true := by
  have hbyte {t : Nat} (ht : t = i ∨ t = i + Config.PKT ∨ t = i + Config.SPAN) :
      byteAt (ofList Config.WIN (encodeTriple i)) t = Config.SYNC := by
    rw [byteAt_ofList _ (by simp only [Config.PKT, Config.SPAN, Config.WIN] at *; omega)]
    exact Laws.RowMatch.encodeTriple_sync ht
  exact (Machine.triple_iff _ _).mpr ⟨hbyte (.inl rfl), hbyte (.inr (.inl rfl)), hbyte (.inr (.inr rfl))⟩

theorem decodeWin3_encodeTriple {i : Nat} (h : i + Config.SPAN < Config.WIN) :
    decode (.win3 i) (encodeTriple i) = .ok (.syncTriple i) := by
  have hlen : (encodeTriple i).length = i + Config.SPAN + 1 := by simp [encodeTriple]
  rw [decode, decodeWin3, if_pos (by omega), if_pos (triple_encodeTriple h)]

/-- Settles O1, row by row: the encoder's bytes are in the header case of their row, with its operands. -/
theorem decodeOfEncodeIsIdentity : Obligations.DecodeOfEncodeIsIdentity := by
  intro i hwf
  cases i with
  | passClear h => exact decodeTshdr_four (headerCase_encode_passClear h 0) (by simp)
  | passRsvd h => exact decodeTshdr_four (headerCase_encode_passRsvd h 0) (by simp)
  | descNoaf h => exact decodeTshdr_four (headerCase_encode_descNoaf h 0) (by simp)
  | descAf h afLen => exact decodeTshdr_five (headerCase_encode_descAf h afLen) []
  | reject h => exact decodeTshdr_four (.reject (by simpa [Instr.wf] using hwf)) (by simp)
  | syncTriple i => exact decodeWin3_encodeTriple (by simpa [Instr.wf] using hwf)
  | leadOk => rfl
  | leadLoss lead =>
    have hne : lead ≠ Config.SYNC := by simpa [Instr.wf] using hwf
    exact congrArg Except.ok (if_neg hne)

/-- Settles O2, case by case of the decoded header: each byte is rebuilt from its fields. -/
theorem encodeOfDecodedHeaderIsItsBytes : Obligations.EncodeOfDecodedHeaderIsItsBytes := by
  intro b0 b1 b2 b3 b4 l i hdec
  obtain ⟨c, hcase⟩ : ∃ c, HeaderCase b0 b1 b2 b3 b4 c := ⟨_, headerCase_classOfHeader b0 b1 b2 b3 b4⟩
  rw [decodeTshdr_five hcase, Except.ok.injEq] at hdec
  subst hdec
  cases hcase with
  | reject h0 => exact ⟨by simpa [PacketClass.toInstr, Instr.wf] using h0, rfl, le_refl 4, rfl⟩
  | passClear h0 hsc =>
    exact ⟨rfl, rfl, le_refl 4, congrArg₂ List.cons h0.symm (encode_passHeaderOf b1 b2 (sc := 0b00#2) hsc)⟩
  | passRsvd h0 hsc =>
    exact ⟨rfl, rfl, le_refl 4, congrArg₂ List.cons h0.symm (encode_passHeaderOf b1 b2 (sc := 0b01#2) hsc)⟩
  | descNoaf h0 hclear hrsvd haf =>
    exact ⟨rfl, rfl, le_refl 4, congrArg₂ List.cons h0.symm (encode_descHeaderOf b1 b2 hclear hrsvd haf)⟩
  | descAf h0 hclear hrsvd haf =>
    have hfront := encode_descHeaderOf b1 b2 hclear hrsvd haf
    exact ⟨rfl, rfl, Nat.le_succ 4, congrArg₂ (fun b t => b :: (t ++ [b4])) h0.symm hfront⟩

end Sys2Proof
end

section
/-! PROOFS. The class map: the masks and matches over the header word (30_encoding.md R87, R89), the order of the tests (R88), and the
words of the spec. -/

namespace Sys2Proof.Machine

/-! ### The header word under a mask (R87) -/

theorem bitVec_append_inj {n m : Nat} {x x' : BitVec n} {y y' : BitVec m} : x ++ y = x' ++ y' ↔ x = x' ∧ y = y' := by
  constructor
  · intro h
    have hx := congrArg (BitVec.extractLsb' m n) h
    have hy := congrArg (BitVec.extractLsb' 0 m) h
    rw [BitVec.extractLsb'_append_eq_left, BitVec.extractLsb'_append_eq_left] at hx
    rw [BitVec.extractLsb'_append_eq_right, BitVec.extractLsb'_append_eq_right] at hy
    exact ⟨hx, hy⟩
  · rintro ⟨rfl, rfl⟩
    rfl

/-- A mask over byte 0 whole and some bits of byte 3: the sync byte, and a match in byte 3 (R89). -/
theorem headerWord_match_iff (b0 b1 b2 b3 m3 n3 : Byte) :
    headerWord b0 b1 b2 b3 &&& headerWord 0xFF#8 0#8 0#8 m3 = headerWord 0x47#8 0#8 0#8 n3 ↔
      b0 = Config.SYNC ∧ b3 &&& m3 = n3 := by
  have hbyte0 : b0 &&& 0xFF#8 = b0 := BitVec.and_allOnes
  show (b0 ++ b1 ++ b2 ++ b3) &&& (0xFF#8 ++ 0#8 ++ 0#8 ++ m3) = 0x47#8 ++ 0#8 ++ 0#8 ++ n3 ↔ _
  simp only [BitVec.and_append, bitVec_append_inj, hbyte0, BitVec.and_zero, and_true]

/-- Byte 3 of a scrambled row under its mask (R89). -/
theorem scrambled_match_iff : ∀ (b3 : Byte) (af : Bool),
    b3 &&& 0xA0#8 = 2#2 ++ BitVec.ofBool af ++ 0#5 ↔ scOf b3 ≠ 0x00#8 ∧ scOf b3 ≠ 0x40#8 ∧ afOf b3 = af := by decide

/-! ### The class by the fields (R88) -/

/-- The fields that select each row exclude those of the others. -/
theorem classRow_iff_of_headerCase {b0 b1 b2 b3 b4 : Byte} {c : PacketClass} (h : HeaderCase b0 b1 b2 b3 b4 c) :
    (b0 = Config.SYNC ∧ scOf b3 = 0x00#8 ↔ classRow c = 0) ∧
    (b0 = Config.SYNC ∧ scOf b3 = 0x40#8 ↔ classRow c = 1) ∧
    (b0 = Config.SYNC ∧ scOf b3 ≠ 0x00#8 ∧ scOf b3 ≠ 0x40#8 ∧ afOf b3 = false ↔ classRow c = 2) ∧
    (b0 = Config.SYNC ∧ scOf b3 ≠ 0x00#8 ∧ scOf b3 ≠ 0x40#8 ∧ afOf b3 = true ↔ classRow c = 3) ∧
    (b0 ≠ Config.SYNC ↔ classRow c = 4) := by
  cases h with
  | reject h0 => simp [classRow, h0]
  | passClear h0 hsc => simp [classRow, h0, hsc]
  | passRsvd h0 hsc => simp [classRow, h0, hsc]
  | descNoaf h0 hclear hrsvd haf => simp [classRow, h0, hclear, hrsvd, haf]
  | descAf h0 hclear hrsvd haf => simp [classRow, h0, hclear, hrsvd, haf]

/-- Settles O3: each mask compares the fields that select its row. -/
theorem classMapIsMaskAndMatch : Obligations.ClassMapIsMaskAndMatch := by
  intro b0 b1 b2 b3 b4 h c
  obtain ⟨hclear, hrsvd, hnoaf, haf, hreject⟩ := classRow_iff_of_headerCase (headerCase_classOfHeader b0 b1 b2 b3 b4)
  have hmatch := headerWord_match_iff b0 b1 b2 b3
  exact ⟨(hmatch 0xC0#8 0x00#8).trans hclear, (hmatch 0xC0#8 0x40#8).trans hrsvd,
    ((hmatch 0xA0#8 0x80#8).trans (and_congr_right' (scrambled_match_iff b3 false))).trans hnoaf,
    ((hmatch 0xA0#8 0xA0#8).trans (and_congr_right' (scrambled_match_iff b3 true))).trans haf, hreject⟩

/-- The class of a packet is in the case of its first five bytes. -/
theorem headerCase_classOf (p : Packet) :
    HeaderCase (byteAt p 0) (byteAt p 1) (byteAt p 2) (byteAt p 3) (byteAt p 4) (classOf p) :=
  headerCase_classOfHeader _ _ _ _ _

/-- Settles O4: under each clause's premises the packet's header is in one case, which gives the class and its operands. -/
theorem classIsDecidedInOrder : Obligations.ClassIsDecidedInOrder := by
  intro p
  have hpusi : pusiOf (byteAt p 1) = true ↔ byteAt p 1 &&& 0x40#8 ≠ 0x00#8 := by simp [pusiOf]
  refine ⟨fun h0 => ?_, fun h0 hsc => ?_, fun h0 hsc => ?_, fun h0 hclear hrsvd haf => ?_, fun h0 hclear hrsvd haf => ?_⟩
  · exact ⟨_, (HeaderCase.reject h0).classOfHeader_eq, rfl⟩
  · exact ⟨_, (HeaderCase.passClear h0 hsc).classOfHeader_eq⟩
  · exact ⟨_, (HeaderCase.passRsvd h0 hsc).classOfHeader_eq⟩
  · have haf : afOf (byteAt p 3) = false := by simpa [afOf] using haf
    exact ⟨_, (HeaderCase.descNoaf h0 hclear hrsvd haf).classOfHeader_eq, hpusi⟩
  · have haf : afOf (byteAt p 3) = true := by simpa [afOf] using haf
    exact ⟨_, (HeaderCase.descAf h0 hclear hrsvd haf).classOfHeader_eq, hpusi⟩

/-- Settles O5: the decoder run on each word. -/
theorem specWordsDecodeToTheirRows : Obligations.SpecWordsDecodeToTheirRows :=
  ⟨rfl, rfl, rfl, rfl, rfl, rfl, rfl⟩

end Sys2Proof.Machine
end

section
/-! PROOFS. Payload start, rounds, tail and the regions of a packet (30_encoding.md R91 to R94). -/

namespace Sys2Proof.Machine

theorem psAf_eq (l : Byte) : psAf l = min (5 + l.toNat) 188 := rfl

theorem roundsOf_eq (ps : Nat) : roundsOf ps = (188 - ps) / 16 := rfl

theorem tailOf_eq (ps : Nat) : tailOf ps = (188 - ps) % 16 := rfl

theorem blockStart_eq (ps i : Nat) : blockStart ps i = ps + 16 * i := rfl

/-- No round is left from payload start 173 on (R92). -/
theorem roundsOf_eq_zero_iff (ps : Nat) : roundsOf ps = 0 ↔ 173 ≤ ps := by
  rw [roundsOf_eq]
  omega

/-- Rounds and tail while the adaptation field leaves at least one payload byte (R93). -/
theorem rounds_tail_of_psAf {l : Byte} (h : l.toNat ≤ 183) :
    16 * roundsOf (psAf l) + tailOf (psAf l) = 183 - l.toNat ∧ tailOf (psAf l) < 16 := by
  rw [roundsOf_eq, tailOf_eq, psAf_eq]
  omega

/-- Settles O8: below 184 the rounds and the tail are quotient and remainder of the bytes left, from 184 on none are left. -/
theorem payloadStartRoundsAndTailByLength : Obligations.PayloadStartRoundsAndTailByLength := by
  refine ⟨rfl, rfl, rfl, fun l => ⟨psAf_eq l, fun h => ?_, fun hlow hhigh => ?_, fun h => ?_, roundsOf_eq_zero_iff _⟩⟩
  · have := rounds_tail_of_psAf (l := l) (by omega)
    omega
  · have := rounds_tail_of_psAf hhigh
    omega
  · have hps : psAf l = 188 := by
      rw [psAf_eq]
      omega
    rw [hps]
    exact ⟨rfl, rfl, rfl⟩

/-- The blocks are consecutive stretches of 16 bytes from the payload start on: an index past it is in the block of its
quotient alone (R94). -/
theorem mem_block_iff {ps t : Nat} (h : ps ≤ t) (i : Nat) :
    blockStart ps i ≤ t ∧ t < blockStart ps i + 16 ↔ i = (t - ps) / 16 := by
  rw [blockStart_eq]
  omega

theorem lt_blockStart_iff {ps t : Nat} (h : ps ≤ t) (n : Nat) : t < blockStart ps n ↔ (t - ps) / 16 < n := by
  rw [blockStart_eq]
  omega

/-- No block begins before the payload start (R94). -/
theorem le_blockStart (ps i : Nat) : ps ≤ blockStart ps i := Nat.le_add_right _ _

/-- The bytes after the last block are the tail (R93). -/
theorem tail_after_blocks {ps : Nat} (h : ps ≤ 188) : blockStart ps (roundsOf ps) + tailOf ps = 188 := by
  rw [blockStart_eq, roundsOf_eq, tailOf_eq]
  omega

/-- Settles O9: an index before the payload start is in no block; one past it is in the block of its quotient, or in the tail when
there are not so many blocks. -/
theorem regionsPartitionThePacket : Obligations.RegionsPartitionThePacket := by
  intro ps _ hmax
  have htail := tail_after_blocks hmax
  refine ⟨by omega, by omega, Nat.mod_lt _ (by decide), fun t _ => ?_⟩
  have hstart := le_blockStart ps
  by_cases hps : ps ≤ t
  · by_cases hblock : (t - ps) / 16 < roundsOf ps
    · obtain ⟨hle, hlt⟩ := (mem_block_iff hps _).mpr rfl
      exact .inr (.inl ⟨hps, ⟨_, hblock, hle, hlt, fun k hk hk' => (mem_block_iff hps k).mp ⟨hk, hk'⟩⟩,
        (lt_blockStart_iff hps _).mpr hblock⟩)
    · refine .inr (.inr ⟨hps, fun i hi hmem => ?_, not_lt.mp (mt (lt_blockStart_iff hps _).mp hblock)⟩)
      exact hblock ((mem_block_iff hps i).mp hmem ▸ hi)
  · have hlt := not_le.mp hps
    exact .inl ⟨hlt, fun i _ hmem => hps ((hstart i).trans hmem.1), hlt.trans_le (hstart _)⟩

end Sys2Proof.Machine
end

section
/-! PROOFS. Header bits without a name (30_encoding.md R95): two packets that agree on the named fields and from the payload start on are
descrambled alike, and the header region is copied. -/

namespace Sys2Proof.Machine

/-! ### The named fields -/

/-- sc and af lie within the named bits of byte 3 (R84, R85). -/
theorem scOf_afOf_of_named {b b' : Byte} (h : b' &&& 0xE0#8 = b &&& 0xE0#8) : scOf b' = scOf b ∧ afOf b' = afOf b := by
  have hsc : ∀ x : Byte, scOf x = scOf (x &&& 0xE0#8) := by decide
  have haf : ∀ x : Byte, afOf x = afOf (x &&& 0xE0#8) := by decide
  rw [hsc b', haf b', h, ← hsc, ← haf]
  exact ⟨rfl, rfl⟩

/-- The row of a packet by the three fields that decide it (R88). -/
theorem classRow_classOf (p : Packet) : classRow (classOf p) =
    if byteAt p 0 ≠ Config.SYNC then 4 else if scOf (byteAt p 3) = 0x00#8 then 0 else if scOf (byteAt p 3) = 0x40#8 then 1
      else if afOf (byteAt p 3) = false then 2 else 3 := by
  simp only [classOf, classOfHeader, apply_ite classRow]
  rfl

/-- Two packets with the same named header fields and the same bytes from the payload start on (R81, R95). -/
structure SameNamed (p q : Packet) : Prop where
  sync : byteAt q 0 = byteAt p 0
  pusi : pusiOf (byteAt q 1) = pusiOf (byteAt p 1)
  sc : scOf (byteAt q 3) = scOf (byteAt p 3)
  af : afOf (byteAt q 3) = afOf (byteAt p 3)
  afLen : byteAt q 4 = byteAt p 4
  payload : ∀ t, payloadStart p ≤ t → byteAt q t = byteAt p t

theorem SameNamed.classRow {p q : Packet} (h : SameNamed p q) : classRow (classOf q) = classRow (classOf p) := by
  rw [classRow_classOf, classRow_classOf, h.sync, h.sc, h.af]

theorem SameNamed.payloadStart {p q : Packet} (h : SameNamed p q) : payloadStart q = payloadStart p := by
  rw [Machine.payloadStart, Machine.payloadStart, h.af, h.afLen]

/-! ### The loop on packets that agree from the payload start on -/

/-- Two states of the loop with the same IV, the same calls and the same O from `ps` on. -/
structure CbcState.AgreeFrom (ps : Nat) (x y : CbcState) : Prop where
  iv : x.iv = y.iv
  calls : x.calls = y.calls
  o : ∀ t, ps ≤ t → byteAt x.o t = byteAt y.o t

theorem blockAt_congr {p q : Packet} {a : Nat} (h : ∀ t, a ≤ t → byteAt q t = byteAt p t) : blockAt q a = blockAt p a :=
  bytes_ext fun j hj => by rw [byteAt_blockAt _ _ hj, byteAt_blockAt _ _ hj, h _ (Nat.le_add_right a j)]

/-- The same block put into two packets that agree at an index. -/
theorem byteAt_putBlock_congr {o o' : Packet} {t : Nat} (h : byteAt o' t = byteAt o t) (a : Nat) (b : Block) :
    byteAt (putBlock o' a b) t = byteAt (putBlock o a b) t := by
  by_cases ht : t < 188
  · rw [putBlock, putBlock, byteAt_tabulate _ ht, byteAt_tabulate _ ht, h]
  · rw [byteAt_packet_past _ (not_lt.mp ht), byteAt_packet_past _ (not_lt.mp ht)]

theorem CbcState.AgreeFrom.cbcLoop {p q : Packet} {ps : Nat} (hpq : ∀ t, ps ≤ t → byteAt q t = byteAt p t)
    (D : Block → Key → Block) (key : Key) (n : Nat) {x y : CbcState} (h : x.AgreeFrom ps y) :
    (cbcLoop D key q ps n x).AgreeFrom ps (cbcLoop D key p ps n y) := by
  induction n with
  | zero => exact h
  | succ n ih =>
    have hblock : blockAt q (blockStart ps n) = blockAt p (blockStart ps n) :=
      blockAt_congr fun t ht => hpq t ((le_blockStart ps n).trans ht)
    simp only [Machine.cbcLoop, cbcRound, hblock, ih.iv, ih.calls]
    exact ⟨rfl, rfl, fun t ht => byteAt_putBlock_congr (ih.o t ht) _ _⟩

/-- Before the loop too, since byte 3 is no payload byte (R91, R119). -/
theorem cbcStart_agreeFrom {p q : Packet} {ps : Nat} (hps : 4 ≤ ps) (hpq : ∀ t, ps ≤ t → byteAt q t = byteAt p t) :
    (cbcStart q).AgreeFrom ps (cbcStart p) := by
  refine ⟨rfl, rfl, fun t ht => ?_⟩
  by_cases hlt : t < 188
  · rw [byteAt_cbcStart q hlt, byteAt_cbcStart p hlt, if_neg (by omega), if_neg (by omega), hpq t ht]
  · rw [byteAt_packet_past _ (not_lt.mp hlt), byteAt_packet_past _ (not_lt.mp hlt)]

/-- The flags and the cipher calls of a scrambled packet depend on its bytes from the payload start on alone (R95). -/
theorem descrambleWith_congr {p q : Packet} {ps : Nat} (hps : 4 ≤ ps) (hpq : ∀ t, ps ≤ t → byteAt q t = byteAt p t)
    (D : Block → Key → Block) (on pusi : Bool) (key : Key) :
    (descrambleWith D on pusi ps q key).flags = (descrambleWith D on pusi ps p key).flags ∧
      (descrambleWith D on pusi ps q key).calls = (descrambleWith D on pusi ps p key).calls := by
  have hend := (cbcStart_agreeFrom hps hpq).cbcLoop hpq D key (roundsOf ps)
  have hcode : hasStartCode (cbcEnd D key q ps).o ps = hasStartCode (cbcEnd D key p ps).o ps := by
    simp only [hasStartCode, cbcEnd, hend.o ps (le_refl ps), hend.o (ps + 1) (Nat.le_add_right ps 1),
      hend.o (ps + 2) (Nat.le_add_right ps 2)]
  exact ⟨by simp only [descrambleWith, pesCheckWith, hcode], hend.calls⟩

/-! ### The contract by the class's row -/

theorem isScrambled_iff_classRow (c : PacketClass) : isScrambled c = true ↔ classRow c = 2 ∨ classRow c = 3 := by
  cases c <;> simp [isScrambled, classRow]

/-- The pass-through classes copy the packet with the flags of their row and no cipher call (R112 to R114). -/
theorem decryptWith_passThrough (D : Block → Key → Block) (on : Bool) (key : Key) {p : Packet}
    (h : ¬ isScrambled (classOf p) = true) : (decryptWith D on p key).output = p ∧ (decryptWith D on p key).calls = [] ∧
      (decryptWith D on p key).flags = if classRow (classOf p) = 1 then flagsRsvd else flagsNone := by
  unfold decryptWith
  cases hc : classOf p with
  | reject d => exact ⟨rfl, rfl, rfl⟩
  | passClear d => exact ⟨rfl, rfl, rfl⟩
  | passRsvd d => exact ⟨rfl, rfl, rfl⟩
  | descNoaf d => exact absurd (by rw [hc]; rfl) h
  | descAf d l => exact absurd (by rw [hc]; rfl) h

/-- The header region is copied but for byte 3, where sc is cleared or kept (R119, R122). -/
theorem decryptWith_header (D : Block → Key → Block) (on : Bool) (key : Key) (p : Packet) {t : Nat} (ht : t < payloadStart p) :
    byteAt (decryptWith D on p key).output t = byteAt p t ∨
      t = 3 ∧ byteAt (decryptWith D on p key).output t = clearSc (byteAt p t) := by
  by_cases hscr : isScrambled (classOf p) = true
  · have hlt : t < 188 := ht.trans_le (payloadStart_bounds p).2
    have hout : byteAt (decryptWith D on p key).output t = if t = 3 then clearSc (byteAt p 3) else byteAt p t := by
      rw [decryptWith_scrambled D on key p hscr, ← byteAt_cbcStart p hlt]
      exact cbcLoop_outside D key p _ _ _ hlt (.inl ht)
    rw [hout]
    by_cases h3 : t = 3
    · exact .inr ⟨h3, by rw [if_pos h3, h3]⟩
    · exact .inl (if_neg h3)
  · rw [(decryptWith_passThrough D on key hscr).1]
    exact .inl rfl

theorem SameNamed.decryptWith {p q : Packet} (h : SameNamed p q) (D : Block → Key → Block) (on : Bool) (key : Key) :
    (decryptWith D on q key).flags = (decryptWith D on p key).flags ∧
      (decryptWith D on q key).calls = (decryptWith D on p key).calls := by
  have hscr : isScrambled (classOf q) = true ↔ isScrambled (classOf p) = true := by
    rw [isScrambled_iff_classRow, isScrambled_iff_classRow, h.classRow]
  by_cases hp : isScrambled (classOf p) = true
  · rw [decryptWith_scrambled D on key p hp, decryptWith_scrambled D on key q (hscr.mpr hp), h.pusi, h.payloadStart]
    exact descrambleWith_congr (payloadStart_bounds p).1 h.payload D on _ key
  · obtain ⟨-, hpcalls, hpflags⟩ := decryptWith_passThrough D on key hp
    obtain ⟨-, hqcalls, hqflags⟩ := decryptWith_passThrough D on key (mt hscr.mp hp)
    exact ⟨by rw [hqflags, hpflags, h.classRow], by rw [hqcalls, hpcalls]⟩

/-- Settles O6: the named fields and the payload decide everything but the header region, which is copied. -/
theorem unnamedBitsAreIgnoredAndCopied : Obligations.UnnamedBitsAreIgnoredAndCopied := by
  intro D on key p q hsync hpusi hnamed hafLen hpayload
  obtain ⟨hsc, haf⟩ := scOf_afOf_of_named hnamed
  have h : SameNamed p q := ⟨hsync, congrArg (· != 0) hpusi, hsc, haf, hafLen, hpayload⟩
  obtain ⟨hflags, hcalls⟩ := h.decryptWith D on key
  have hheader {t : Nat} (ht : t < payloadStart q) := decryptWith_header D on key q ht
  have hclear : ∀ b : Byte, clearSc b &&& 0x3F#8 = b &&& 0x3F#8 := by decide
  refine ⟨h.classRow, h.payloadStart, hflags, hcalls, fun t ht h3 => ?_, ?_⟩
  · rcases hheader ht with hcopy | ⟨hthree, -⟩
    · exact hcopy
    · exact absurd hthree h3
  · rcases hheader (payloadStart_bounds q).1 with hcopy | ⟨-, hbyte⟩
    · rw [hcopy]
    · rw [hbyte, hclear]

end Sys2Proof.Machine
end

section
/-! PROOFS. The descrambled packet byte by byte (40_descrambler.md R115, R119 to R124): blocks, header region and tail, calls, and
the start-code check, for every cipher; what a scrambled class delivers (R117, R118). -/

namespace Sys2Proof.Machine

/-! ### The end of the CBC loop -/

theorem cbcEnd_block (D : Block → Key → Block) (key : Key) (p : Packet) {ps i j : Nat} (hps : ps ≤ 188)
    (hi : i < roundsOf ps) (hj : j < 16) : byteAt (cbcEnd D key p ps).o (blockStart ps i + j) =
      byteAt (D (blockAt p (blockStart ps i)) key) j ^^^ byteAt (prevBlock p ps i) j :=
  cbcLoop_inside D key p ps _ _ (blocks_fit hps) hi hj

theorem cbcEnd_outside (D : Block → Key → Block) (key : Key) (p : Packet) {ps t : Nat} (ht : t < 188)
    (h : t < ps ∨ ps + 16 * roundsOf ps ≤ t) :
    byteAt (cbcEnd D key p ps).o t = if t = 3 then clearSc (byteAt p 3) else byteAt p t := by
  rw [cbcEnd, cbcLoop_outside D key p ps _ _ ht h, byteAt_cbcStart p ht]

/-- No block reaches into the header's four bytes (R91, R119). -/
theorem cbcEnd_byte3 (D : Block → Key → Block) (key : Key) (p : Packet) {ps : Nat} (hps : 4 ≤ ps) :
    byteAt (cbcEnd D key p ps).o 3 = clearSc (byteAt p 3) :=
  cbcEnd_outside D key p (by decide) (.inl hps)

theorem cbcEnd_header (D : Block → Key → Block) (key : Key) (p : Packet) {ps t : Nat} (hps : ps ≤ 188) (ht : t < ps)
    (h3 : t ≠ 3) : byteAt (cbcEnd D key p ps).o t = byteAt p t := by
  rw [cbcEnd_outside D key p (ht.trans_le hps) (.inl ht), if_neg h3]

theorem cbcEnd_tail (D : Block → Key → Block) (key : Key) (p : Packet) {ps t : Nat} (hps : 4 ≤ ps)
    (hpast : ps + 16 * roundsOf ps ≤ t) (ht : t < 188) : byteAt (cbcEnd D key p ps).o t = byteAt p t := by
  rw [cbcEnd_outside D key p ht (.inr hpast), if_neg (by omega)]

theorem cbcEnd_calls (D : Block → Key → Block) (key : Key) (p : Packet) (ps : Nat) :
    (cbcEnd D key p ps).calls = (List.range (roundsOf ps)).map (cipherCall D key p ps) :=
  cbcLoop_calls D key p ps _ _

/-- Settles O15: each block of the loop's output, which later rounds leave. -/
theorem cbcChainsOnInputCiphertext : Obligations.CbcChainsOnInputCiphertext :=
  fun D key p _ _ _ _ hps hi hj => cbcEnd_block D key p hps hi hj

/-! ### What a scrambled class delivers -/

theorem pesCheckWith_iff (on pusi : Bool) (o : Packet) (ps rounds : Nat) : pesCheckWith on pusi o ps rounds = true ↔
    on = true ∧ pusi = true ∧ 1 ≤ rounds ∧
      ¬(byteAt o ps = 0x00#8 ∧ byteAt o (ps + 1) = 0x00#8 ∧ byteAt o (ps + 2) = 0x01#8) := by
  have hcode : hasStartCode o ps = true ↔
      byteAt o ps = 0x00#8 ∧ byteAt o (ps + 1) = 0x00#8 ∧ byteAt o (ps + 2) = 0x01#8 := by
    simp only [hasStartCode, Bool.and_eq_true, beq_iff_eq, and_assoc]
  simp only [pesCheckWith, Bool.and_eq_true, decide_eq_true_eq, Bool.not_eq_true', ← hcode, Bool.not_eq_true, and_assoc]

/-- The result of `descramble`, delivered, is the descrambling said without the loop (R115). -/
theorem descrambled_deliver (pusi : Bool) {ps : Nat} (hmin : 4 ≤ ps) (hmax : ps ≤ 188) (s : State) :
    Descrambled pusi ps s (s.deliver (descrambleWith Config.decryptBlock Config.pesCheck pusi ps s.p s.key)) := by
  rw [deliver_eq]
  refine ⟨fun i j hi hj => ?block, ?byte3, fun a ha h3 => ?header, fun a hpast ha => ?tail, rfl, rfl, ?warn, ?iv, ?calls,
    ?events, rfl⟩
  case block => exact cbcEnd_block _ s.key s.p hmax hi hj
  case byte3 => exact cbcEnd_byte3 _ s.key s.p hmin
  case header => exact cbcEnd_header _ s.key s.p hmax ha h3
  case tail => exact cbcEnd_tail _ s.key s.p hmin hpast ha
  case warn => exact (pesCheckWith_iff _ pusi _ ps _).trans (and_iff_right rfl)
  case iv => exact cbcLoop_iv _ s.key s.p ps _ _
  case calls => exact congrArg (s.trace ++ ·) (cbcEnd_calls _ s.key s.p ps)
  case events => exact congrArg (s.events ++ ·) (warnEvents_eq ps _)

end Sys2Proof.Machine
end

section
/-! PROOFS. The meanings of the five classes (40_descrambler.md R112 to R118): which packets have the class, and the exact next state,
in any state; the contract `decrypt` delivered from P and KEY alone (R127). -/

namespace Sys2Proof.Machine

/-! ### The pass-through classes -/

/-- A verbatim copy delivered: O, the flags and the events, and nothing else. -/
theorem deliver_verbatim (s : State) (f : Sideband) (e : List Event) : s.deliver (verbatim s.p f e) =
    { s with o := s.p, wasScr := f.wasScr, rsvd := f.rsvd, pesWarn := f.pesWarn, events := s.events ++ e } := by
  rw [deliver_eq]
  simp only [verbatim, Option.getD_none, List.append_nil]

/-- Format LEAD looks at byte 0 of a packet (R98). -/
theorem decode_lead_toList (p : Packet) : decode .lead p.toList = .ok (leadOf (byteAt p 0)) := by
  have hlen := toList_length p
  unfold byteAt
  cases hl : p.toList with
  | nil => simp [hl] at hlen
  | cons b l => rfl

theorem leadOf_eq_leadOk_iff (b : Byte) : leadOf b = .leadOk ↔ b = Config.SYNC := by
  unfold leadOf
  split <;> simp_all

/-- Settles O10: REJECT is the first row of the class decode, LEAD_OK the packets of the others; its meaning delivers a copy. -/
theorem rejectCopiesVerbatim : Obligations.RejectCopiesVerbatim := by
  refine ⟨fun p => ⟨fun h0 => ?_, fun ⟨h, hc⟩ h0 => classOf_not_reject h0 h hc⟩, fun p h hlead => ?_, fun h s => ?_⟩
  · obtain ⟨hreject, -⟩ := classIsDecidedInOrder p
    exact (hreject h0).imp fun _ => And.left
  · rw [decode_lead_toList, Except.ok.injEq, leadOf_eq_leadOk_iff] at hlead
    exact classOf_not_reject hlead h
  · exact congrArg Host.Outcome.next (deliver_verbatim s flagsNone _)

/-- Settles O11: sc 00 is row 0 of the class map; its meaning delivers a copy. -/
theorem passClearCopiesVerbatim : Obligations.PassClearCopiesVerbatim := by
  refine ⟨fun p => ⟨fun ⟨h0, hsc⟩ => ?_, fun ⟨h, hc⟩ => ?_⟩, fun h s => ?_⟩
  · obtain ⟨-, hclear, -⟩ := classIsDecidedInOrder p
    exact hclear h0 hsc
  · obtain ⟨hrow, -⟩ := classRow_iff_of_headerCase (headerCase_classOf p)
    exact hrow.mpr (by rw [hc]; rfl)
  · refine congrArg Host.Outcome.next ((deliver_verbatim s flagsNone []).trans ?_)
    rw [List.append_nil]
    rfl

/-- Settles O12: sc 01 is row 1 of the class map; its meaning delivers a copy with RSVD and the event. -/
theorem passRsvdCopiesVerbatimAndSignals : Obligations.PassRsvdCopiesVerbatimAndSignals := by
  refine ⟨fun p => ⟨fun ⟨h0, hsc⟩ => ?_, fun ⟨h, hc⟩ => ?_⟩, fun h s => ?_⟩
  · obtain ⟨-, -, hrsvd, -⟩ := classIsDecidedInOrder p
    exact hrsvd h0 hsc
  · obtain ⟨-, hrow, -⟩ := classRow_iff_of_headerCase (headerCase_classOf p)
    exact hrow.mpr (by rw [hc]; rfl)
  · exact congrArg Host.Outcome.next (deliver_verbatim s flagsRsvd _)

/-! ### The scrambled classes -/

/-- Bit 7 of byte 3 set is a scrambled value of sc, bit 5 is af (R84, R85). -/
theorem scrambled_bits_iff : ∀ (b3 : Byte) (af : Bool), b3.getLsbD 7 = true ∧ b3.getLsbD 5 = af ↔
    scOf b3 ≠ 0x00#8 ∧ scOf b3 ≠ 0x40#8 ∧ afOf b3 = af := by decide

/-- Settles O13: bits 7 and 5 select row 2 of the class map; its meaning descrambles from 4. -/
theorem descNoafDescramblesFromFour : Obligations.DescNoafDescramblesFromFour := by
  refine ⟨rfl, rfl, rfl, fun p => ?_, fun h s => ⟨_, rfl, descrambled_deliver h.pusi (by decide) (by decide) s⟩⟩
  rw [scrambled_bits_iff]
  constructor
  · rintro ⟨h0, hclear, hrsvd, haf⟩
    obtain ⟨-, -, -, hnoaf, -⟩ := classIsDecidedInOrder p
    exact hnoaf h0 hclear hrsvd (by simpa [afOf] using haf)
  · rintro ⟨h, hc, -⟩
    obtain ⟨-, -, hrow, -⟩ := classRow_iff_of_headerCase (headerCase_classOf p)
    exact hrow.mpr (by rw [hc]; rfl)

/-- Settles O14: bits 7 and 5 select row 3 of the class map; its meaning descrambles from the clamped payload start. -/
theorem descAfDescramblesAfterItsField : Obligations.DescAfDescramblesAfterItsField := by
  refine ⟨fun l => ?_, fun p => ?_, fun h l s => ⟨_, rfl, descrambled_deliver h.pusi (by omega) (by omega) s⟩⟩
  · rw [roundsOf_eq_zero_iff, roundsOf_eq]
    omega
  · rw [scrambled_bits_iff]
    constructor
    · rintro ⟨h0, hclear, hrsvd, haf⟩
      obtain ⟨-, -, -, -, hdesc⟩ := classIsDecidedInOrder p
      exact hdesc h0 hclear hrsvd (by simpa [afOf] using haf)
    · rintro ⟨h, hc, -⟩
      obtain ⟨-, -, -, hrow, -⟩ := classRow_iff_of_headerCase (headerCase_classOf p)
      exact hrow.mpr (by rw [hc]; rfl)

/-! ### The decoded class -/

theorem exec_toInstr (c : PacketClass) (s : State) : exec c.toInstr s = runClass c s := by
  cases c <;> rfl

/-- Settles O24: the decoded class delivers `decrypt` of P and KEY, which is one result for both states. -/
theorem descramblerKeepsNoMemory : Obligations.DescramblerKeepsNoMemory := by
  have hdelivers (s : State) : exec (classOf s.p).toInstr s = .next (s.deliver (decrypt s.p s.key)) := by
    rw [exec_toInstr, runClass_classOf]
  refine ⟨hdelivers, fun s u hp hkey => ⟨_, _, hdelivers s, hdelivers u, ?_⟩⟩
  rw [hp, hkey, deliver_eq, deliver_eq]
  exact ⟨rfl, rfl, rfl, rfl, _, _, rfl, rfl, rfl, rfl⟩

end Sys2Proof.Machine
end

section
/-! PROOFS. The contract `decrypt` for every cipher (40_descrambler.md R116, R119, R122 to R126, R128, R130, R131). -/

namespace Sys2Proof.Machine

/-! ### Pass-through and the frame -/

/-- Settles O20: the copy. -/
theorem passThroughIsIdentity : Obligations.PassThroughIsIdentity := by
  intro D on key p hpass
  obtain ⟨hout, -⟩ := decryptWith_passThrough D on key (ne_true_of_eq_false hpass)
  exact hout

theorem decryptWith_scrambled_output (D : Block → Key → Block) (on : Bool) (key : Key) {p : Packet}
    (h : isScrambled (classOf p) = true) : (decryptWith D on p key).output = (cbcEnd D key p (payloadStart p)).o :=
  congrArg PacketResult.output (decryptWith_scrambled D on key p h)

theorem decryptWith_scrambled_calls (D : Block → Key → Block) (on : Bool) (key : Key) {p : Packet}
    (h : isScrambled (classOf p) = true) : (decryptWith D on p key).calls = (cbcEnd D key p (payloadStart p)).calls :=
  congrArg PacketResult.calls (decryptWith_scrambled D on key p h)

/-- Settles O16: a scrambled class runs the loop at the packet's payload start, the others copy. -/
theorem descramblingLeavesHeaderAndTail : Obligations.DescramblingLeavesHeaderAndTail := by
  intro D on key p o ps
  obtain ⟨hmin, hmax⟩ := payloadStart_bounds p
  refine ⟨fun hscr => ?_, fun hpass => ?_⟩
  · have hout : o = (cbcEnd D key p ps).o := decryptWith_scrambled_output D on key hscr
    rw [hout]
    exact ⟨cbcEnd_byte3 D key p hmin, fun t ht h3 => cbcEnd_header D key p hmax ht h3,
      fun t hpast ht => cbcEnd_tail D key p hmin hpast ht⟩
  · exact congrArg (byteAt · 3) (passThroughIsIdentity D on key p hpass)

/-- Settles O17: the loop's calls, and none of a copy. -/
theorem cipherCallsAreTheInputBlocksInOrder : Obligations.CipherCallsAreTheInputBlocksInOrder := by
  intro D on key p
  refine ⟨fun hscr => ?_, fun hpass => ?_⟩
  · rw [decryptWith_scrambled_calls D on key hscr, cbcEnd_calls]
  · obtain ⟨-, hcalls, -⟩ := decryptWith_passThrough D on key (ne_true_of_eq_false hpass)
    exact hcalls

/-! ### Flags and events -/

/-- Settles O18: the flags of each class's row. -/
theorem wasScrMarksTheScrambledClasses : Obligations.WasScrMarksTheScrambledClasses := by
  intro D on key p
  by_cases hscr : isScrambled (classOf p) = true
  · have hrow : classRow (classOf p) ≠ 1 := by
      rcases (isScrambled_iff_classRow _).mp hscr with h | h <;> omega
    rw [decryptWith_scrambled D on key p hscr, hscr]
    exact ⟨rfl, iff_of_false Bool.false_ne_true hrow⟩
  · obtain ⟨-, -, hflags⟩ := decryptWith_passThrough D on key hscr
    rw [hflags, Bool.eq_false_iff.mpr hscr]
    by_cases hrow : classRow (classOf p) = 1
    · rw [if_pos hrow]
      exact ⟨rfl, iff_of_true rfl hrow⟩
    · rw [if_neg hrow]
      exact ⟨rfl, iff_of_false Bool.false_ne_true hrow⟩

/-- A pass-through class neither warns nor raises PesMismatch (R112 to R114). -/
theorem decryptWith_passThrough_no_warning (D : Block → Key → Block) (on : Bool) (key : Key) {p : Packet}
    (h : ¬ isScrambled (classOf p) = true) : (decryptWith D on p key).flags.pesWarn = false ∧
      ∀ ps, Event.pesMismatch ps ∉ (decryptWith D on p key).events := by
  unfold decryptWith
  cases hc : classOf p with
  | reject d => exact ⟨rfl, by simp [verbatim]⟩
  | passClear d => exact ⟨rfl, by simp [verbatim]⟩
  | passRsvd d => exact ⟨rfl, by simp [verbatim]⟩
  | descNoaf d => exact absurd (by rw [hc]; rfl) h
  | descAf d l => exact absurd (by rw [hc]; rfl) h

/-- Settles O19: the check is made at the end of the loop, of which it changes nothing; the pass-through classes do not make it. -/
theorem startCodeCheckIsAdvisory : Obligations.StartCodeCheckIsAdvisory := by
  intro D key p r ps
  by_cases hscr : isScrambled (classOf p) = true
  · have hpusi : pusiOf (byteAt p 1) = true ↔ byteAt p 1 &&& 0x40#8 ≠ 0x00#8 := bne_iff_ne
    have hon := decryptWith_scrambled D true key p hscr
    have hoff := decryptWith_scrambled D false key p hscr
    have hwarn := pesCheckWith_iff true (pusiOf (byteAt p 1)) (cbcEnd D key p ps).o ps (roundsOf ps)
    rw [hpusi] at hwarn
    simp only [r, hon, hoff]
    refine ⟨hwarn.trans ⟨fun ⟨_, h⟩ => ⟨hscr, h⟩, fun ⟨_, h⟩ => ⟨rfl, h⟩⟩, ?_, rfl, rfl, rfl⟩
    exact ((mem_warnEvents ps _ _).trans (and_iff_left rfl)).symm
  · obtain ⟨hwarn, hevents⟩ := decryptWith_passThrough_no_warning D true key hscr
    obtain ⟨hout, hcalls, -⟩ := decryptWith_passThrough D true key hscr
    obtain ⟨hout', hcalls', -⟩ := decryptWith_passThrough D false key hscr
    obtain ⟨hwarn', -⟩ := decryptWith_passThrough_no_warning D false key hscr
    have hno : ¬ r.flags.pesWarn = true := ne_true_of_eq_false hwarn
    exact ⟨iff_of_false hno fun h => hscr h.1, iff_of_false hno (hevents ps), hout.trans hout'.symm, hcalls.trans hcalls'.symm,
      hwarn'⟩

end Sys2Proof.Machine
end

section
/-! PROOFS. Laws of the contract `decrypt` over two packets, for every cipher: the parity bit (40_descrambler.md R116), flag
normalization (R129), idempotence (R131), and the round trip with a right inverse of the cipher (R130). -/

namespace Sys2Proof.Machine

/-! ### The parity bit (R90) -/

/-- The loop reads the packet in its blocks alone (R115). -/
theorem cbcLoop_congr {p q : Packet} {ps : Nat} (hpq : ∀ t, ps ≤ t → byteAt q t = byteAt p t) (D : Block → Key → Block)
    (key : Key) (n : Nat) (st : CbcState) : cbcLoop D key q ps n st = cbcLoop D key p ps n st := by
  induction n with
  | zero => rfl
  | succ n ih =>
    have hblock : blockAt q (blockStart ps n) = blockAt p (blockStart ps n) :=
      blockAt_congr fun t ht => hpq t ((le_blockStart ps n).trans ht)
    rw [cbcLoop, cbcLoop, ih, cbcRound, cbcRound, hblock]

/-- The bits that are cleared in byte 3 have no part in the descrambling (R119). -/
theorem descrambleWith_eq_of_clearSc {p q : Packet} {ps : Nat} (hps : 4 ≤ ps) (hrest : ∀ t, t ≠ 3 → byteAt q t = byteAt p t)
    (hbyte3 : clearSc (byteAt q 3) = clearSc (byteAt p 3)) (D : Block → Key → Block) (on pusi : Bool) (key : Key) :
    descrambleWith D on pusi ps q key = descrambleWith D on pusi ps p key := by
  have hstart : cbcStart q = cbcStart p := by
    have ho : (cbcStart q).o = (cbcStart p).o := bytes_ext fun t ht => by
      rw [byteAt_cbcStart q ht, byteAt_cbcStart p ht, hbyte3]
      by_cases h3 : t = 3
      · rw [if_pos h3, if_pos h3]
      · rw [if_neg h3, if_neg h3, hrest t h3]
    exact congrArg (CbcState.mk · zero16 []) ho
  have hend : cbcEnd D key q ps = cbcEnd D key p ps := by
    rw [cbcEnd, cbcEnd, hstart, cbcLoop_congr fun t ht => hrest t (by omega)]
  rw [descrambleWith, descrambleWith, hend]

/-- The scrambled classes by bit 7 of byte 3 (R88, R90). -/
theorem isScrambled_iff_bit7 (p : Packet) : isScrambled (classOf p) = true ↔
    byteAt p 0 = 0x47#8 ∧ byteAt p 3 &&& 0x80#8 = 0x80#8 := by
  have hbit : ∀ b : Byte, scOf b ≠ 0x00#8 ∧ scOf b ≠ 0x40#8 ↔ b &&& 0x80#8 = 0x80#8 := by decide
  rw [isScrambled_iff, hbit]

theorem classRow_of_isScrambled {p : Packet} (h : isScrambled (classOf p) = true) :
    classRow (classOf p) = if afOf (byteAt p 3) = false then 2 else 3 := by
  obtain ⟨h0, hclear, hrsvd⟩ := (isScrambled_iff p).mp h
  rw [classRow_classOf, if_neg (not_not.mpr h0), if_neg hclear, if_neg hrsvd]

/-- Settles O7: the bit is neither bit 7 nor af, and it is cleared before the loop. -/
theorem parityBitIsADontCare : Obligations.ParityBitIsADontCare := by
  intro D on key p h0 h7 q
  have hbyte3 : byteAt q 3 = byteAt p 3 ^^^ 0x40#8 := byteAt_putByte p 3 _ (by decide)
  have hrest : ∀ t, t ≠ 3 → byteAt q t = byteAt p t := fun t h3 => by
    by_cases ht : t < 188
    · rw [byteAt_putByte p 3 _ ht, if_neg h3]
    · rw [byteAt_packet_past _ (not_lt.mp ht), byteAt_packet_past _ (not_lt.mp ht)]
  have hflip : ∀ b : Byte, (b ^^^ 0x40#8) &&& 0x80#8 = b &&& 0x80#8 ∧ afOf (b ^^^ 0x40#8) = afOf b ∧
      clearSc (b ^^^ 0x40#8) = clearSc b := by decide
  obtain ⟨hbit7, haf, hclear⟩ := hflip (byteAt p 3)
  rw [← hbyte3] at hbit7 haf hclear
  have hp : isScrambled (classOf p) = true := (isScrambled_iff_bit7 p).mpr ⟨h0, h7⟩
  have hq : isScrambled (classOf q) = true :=
    (isScrambled_iff_bit7 q).mpr ⟨(hrest 0 (by decide)).trans h0, hbit7.trans h7⟩
  have hps : payloadStart q = payloadStart p := by
    rw [payloadStart, payloadStart, haf, hrest 4 (by decide)]
  have hresult : decryptWith D on q key = decryptWith D on p key := by
    rw [decryptWith_scrambled D on key q hq, decryptWith_scrambled D on key p hp, hps, hrest 1 (by decide)]
    exact descrambleWith_eq_of_clearSc (payloadStart_bounds p).1 hrest hclear D on _ key
  rw [classRow_of_isScrambled hq, classRow_of_isScrambled hp, haf, hresult]
  exact ⟨rfl, rfl, rfl, rfl⟩

/-! ### Applying it twice -/

/-- The output of a scrambled class keeps the sync byte and says not scrambled (R119, R122). -/
theorem isScrambled_output (D : Block → Key → Block) (on : Bool) (key : Key) {p : Packet}
    (h : isScrambled (classOf p) = true) : isScrambled (classOf (decryptWith D on p key).output) = false := by
  obtain ⟨hbyte3, -⟩ := (descramblingLeavesHeaderAndTail D on key p).1 h
  have hclear : ∀ b : Byte, (b &&& 0x3F#8) &&& 0x80#8 ≠ 0x80#8 := by decide
  rw [Bool.eq_false_iff, ne_eq, isScrambled_iff_bit7, hbyte3]
  exact fun ⟨_, h7⟩ => hclear _ h7

/-- Settles O23: the output of a scrambled class is passed through, as is the packet of every other class. -/
theorem decryptIsIdempotent : Obligations.DecryptIsIdempotent := by
  intro D on key p
  by_cases hscr : isScrambled (classOf p) = true
  · exact passThroughIsIdentity D on key _ (isScrambled_output D on key hscr)
  · rw [passThroughIsIdentity D on key p (Bool.eq_false_iff.mpr hscr)]
    exact passThroughIsIdentity D on key p (Bool.eq_false_iff.mpr hscr)

/-! ### Scrambling and back (R130) -/

/-- A packet index outside the blocks, or its block and place there (R94). -/
theorem outside_or_in_block (ps t : Nat) : (t < ps ∨ ps + 16 * roundsOf ps ≤ t) ∨
    ∃ i j, i < roundsOf ps ∧ j < 16 ∧ t = blockStart ps i + j := by
  by_cases hout : t < ps ∨ ps + 16 * roundsOf ps ≤ t
  · exact .inl hout
  · exact .inr ⟨(t - ps) / 16, (t - ps) % 16, by omega, Nat.mod_lt _ (by decide), by rw [blockStart_eq]; omega⟩

/-- An adaptation field has at least its length byte (R91). -/
theorem five_le_payloadStart {p : Packet} (haf : afOf (byteAt p 3) = true) : 5 ≤ payloadStart p := by
  rw [payloadStart, if_pos haf, psAf_eq]
  omega

/-- Byte 4 counts where it is the field's length, and there it is a header byte (R86, R91). -/
theorem payloadStart_eq_of_header {p q : Packet} (haf : afOf (byteAt p 3) = afOf (byteAt q 3))
    (hheader : ∀ t, t < payloadStart q → t ≠ 3 → byteAt p t = byteAt q t) : payloadStart p = payloadStart q := by
  by_cases hq : afOf (byteAt q 3) = true
  · rw [payloadStart, payloadStart, haf, hheader 4 (five_le_payloadStart hq) (by decide)]
  · rw [payloadStart, payloadStart, haf, if_neg hq, if_neg hq]

/-- A scrambled value set in a clear byte 3: bit 7 is set, af is left, and clearing gives the byte back (R84, R119). -/
theorem scrambled_byte3 {b sc : Byte} (hclear : b &&& 0xC0#8 = 0x00#8) (hsc : sc = 0x80#8 ∨ sc = 0xC0#8) :
    (b ||| sc) &&& 0x80#8 = 0x80#8 ∧ afOf (b ||| sc) = afOf b ∧ clearSc (b ||| sc) = b := by
  rcases hsc with rfl | rfl <;> revert b <;> decide

/-- A block scrambled with a right inverse of the cipher is descrambled to its clear bytes, whatever it was chained on. -/
theorem descrambled_block {D E : Block → Key → Block} (hinv : ∀ x k, D (E x k) k = x) (key : Key) (clear prev : Block) {j : Nat}
    (hj : j < 16) : byteAt (D (E (xor16 clear prev) key) key) j ^^^ byteAt prev j = byteAt clear j := by
  rw [hinv, byteAt_xor16 _ _ hj, BitVec.xor_assoc, BitVec.xor_self, BitVec.xor_zero]

/-- Settles O22: outside the blocks the header and the tail are copied and byte 3 is cleared; each block is chained on the scrambled
block before it both ways, so the chaining cancels. -/
theorem descramblingInvertsCbcScrambling : Obligations.DescramblingInvertsCbcScrambling := by
  intro D E on key p q sc hinv h0 hclear hsc hbyte3 hheader htail hblocks
  obtain ⟨hbit7, haf, hback⟩ := scrambled_byte3 hclear hsc
  rw [← hbyte3] at hbit7 haf hback
  obtain ⟨hmin, hmax⟩ := payloadStart_bounds q
  have hps : payloadStart p = payloadStart q := payloadStart_eq_of_header haf hheader
  have hscr : isScrambled (classOf p) = true :=
    (isScrambled_iff_bit7 p).mpr ⟨(hheader 0 (by omega) (by decide)).trans h0, hbit7⟩
  rw [decryptWith_scrambled_output D on key hscr, hps]
  refine bytes_ext fun t ht => ?_
  rcases outside_or_in_block (payloadStart q) t with hout | ⟨i, j, hi, hj, rfl⟩
  · rw [cbcEnd_outside D key p ht hout, hback]
    by_cases h3 : t = 3
    · rw [if_pos h3, h3]
    · rw [if_neg h3]
      exact hout.elim (fun hlow => hheader t hlow h3) fun hpast => htail t hpast ht
  · rw [cbcEnd_block D key p hmax hi hj, hblocks i hi, descrambled_block hinv key _ _ hj, byteAt_blockAt _ _ hj]

end Sys2Proof.Machine
end

section
/-! PROOFS. Flag normalization (40_descrambler.md R129): sc of a packet's output, and of every packet a step appends. -/

namespace Sys2Proof.Machine

theorem scOf_output_scrambled (D : Block → Key → Block) (on : Bool) (key : Key) {p : Packet}
    (h : isScrambled (classOf p) = true) : scOf (byteAt (decryptWith D on p key).output 3) = 0x00#8 := by
  obtain ⟨hbyte3, -⟩ := (descramblingLeavesHeaderAndTail D on key p).1 h
  have hclear : ∀ b : Byte, scOf (b &&& 0x3F#8) = 0x00#8 := by decide
  rw [hbyte3, hclear]

theorem scOf_output_passThrough (D : Block → Key → Block) (on : Bool) (key : Key) {p : Packet}
    (h : ¬ isScrambled (classOf p) = true) :
    scOf (byteAt (decryptWith D on p key).output 3) = scOf (byteAt p 3) := by
  rw [passThroughIsIdentity D on key p (Bool.eq_false_iff.mpr h)]

/-- A packet with the sync byte is put out with sc 00 or 01 (R129). -/
theorem scOf_output_of_sync (D : Block → Key → Block) (on : Bool) (key : Key) {p : Packet} (h0 : byteAt p 0 = 0x47#8) :
    scOf (byteAt (decryptWith D on p key).output 3) = 0x00#8 ∨
      scOf (byteAt (decryptWith D on p key).output 3) = 0x40#8 := by
  by_cases hscr : isScrambled (classOf p) = true
  · exact .inl (scOf_output_scrambled D on key hscr)
  · rw [scOf_output_passThrough D on key hscr]
    by_contra! hsc
    exact hscr ((isScrambled_iff p).mpr ⟨h0, hsc⟩)

/-- A core step that appends has a sync byte at CURSOR (R98, R169): every other case leaves the sink. -/
theorem CoreCase.sync_of_append {s t : State} (hc : CoreCase s t) (hgrew : t.snkLen ≠ s.snkLen) :
    s.src.read s.cursor.toNat = Config.SYNC := by
  cases hc with
  | packetOk _ _ _ _ hlead => exact hlead
  | waits | initOk | initErr | streamEnd => exact absurd rfl hgrew
  | searchErr =>
    exact absurd ((KeepsStreams.loseWindow _).trans (.enterFailed _ .srcIo (.srcIoError s.cursor))).snkLen hgrew
  | searchHit => exact absurd ((KeepsStreams.searched s).trans (.lockAt _ _)).snkLen hgrew
  | searchNone => exact absurd ((KeepsStreams.searched s).trans (.searchMiss _)).snkLen hgrew
  | packetErr =>
    exact absurd ((KeepsStreams.losePacket _).trans (.enterFailed _ .srcIo (.srcIoError s.cursor))).snkLen hgrew
  | packetLoss => exact absurd ((KeepsStreams.fetched s).trans (.enterRecovery _)).snkLen hgrew

/-- `t` has the descrambled output of a packet with the sync byte appended to the sink of `s`. -/
def AppendsDescrambled (s t : State) : Prop :=
  ∃ p key, byteAt p 0 = 0x47#8 ∧ AppendsPacket s t (decrypt p key).output

theorem CoreCase.appendsDescrambled {s t : State} (hc : CoreCase s t) (hgrew : t.snkLen ≠ s.snkLen) :
    AppendsDescrambled s t := by
  rcases hc.streams with hkeep | hpacket
  · exact absurd hkeep.snkLen hgrew
  · have hbyte0 : byteAt (packetAt s.src s.cursor.toNat) 0 = s.src.read s.cursor.toNat := by
      rw [packetAt, byteAt_ofList _ (by decide), Memory.readBytes_getD _ _ _ (by decide), Nat.add_zero]
    exact ⟨_, _, hbyte0.trans (hc.sync_of_append hgrew), hpacket.appends⟩

/-- The host's acts leave the sink (R223). -/
theorem HostCase.appendsDescrambled {s t : State} {a : HostAct} (hc : HostCase s a t) (hgrew : t.snkLen ≠ s.snkLen) :
    AppendsDescrambled s t := by
  cases hc with
  | idle h => exact h.appendsDescrambled hgrew
  | rst | attach => exact absurd rfl hgrew
  | start k =>
    unfold startStep at hgrew
    split at hgrew <;> exact absurd rfl hgrew

theorem step_appendsDescrambled {s t : State} (h : step s = .next t) (hgrew : t.snkLen ≠ s.snkLen) :
    AppendsDescrambled s t := by
  rcases (step_iff s t).mp h with ⟨-, hcore⟩ | ⟨a, rest, -, hhost⟩
  · exact hcore.appendsDescrambled hgrew
  · obtain ⟨p, key, h0, hsnk, hlen⟩ := hhost.appendsDescrambled hgrew
    exact ⟨p, key, h0, hsnk, hlen⟩

/-- A byte of an appended packet in the sink (R54, R55). -/
theorem AppendsPacket.read {s t : State} {out : Packet} (h : AppendsPacket s t out) (hwf : s.snk.wf = true) {j : Nat}
    (hj : j < 188) : t.snk.read (s.snkLen + j) = byteAt out j := by
  rw [h.snk, Memory.read_writeBytes _ _ _ _ hwf, toList_length, if_pos (by simp only [Config.PKT]; omega),
    Nat.add_sub_cancel_left]
  rfl

/-- Settles O21: the scrambled classes clear sc, the others keep it; and what a step appends is the output of a packet with the sync
byte, read back from the sink. -/
theorem outputAdvertisesNotScrambled : Obligations.OutputAdvertisesNotScrambled := by
  refine ⟨fun D on key p => ?_, fun s t hwf hstep hgrew => ?_⟩
  · obtain ⟨hclear, hrsvd, -⟩ := classRow_iff_of_headerCase (headerCase_classOf p)
    have hkept (hrow : ¬(classRow (classOf p) = 2 ∨ classRow (classOf p) = 3)) :
        scOf (byteAt (decryptWith D on p key).output 3) = scOf (byteAt p 3) :=
      scOf_output_passThrough D on key (mt (isScrambled_iff_classRow _).mp hrow)
    refine ⟨fun h => ?_, fun hrow => ?_, fun hrow => hkept (by omega)⟩
    · rcases h with hrow | hscr
      · exact (hkept (by omega)).trans (hclear.mpr hrow).2
      · exact scOf_output_scrambled D on key hscr
    · exact (hkept (by omega)).trans (hrsvd.mpr hrow).2
  · obtain ⟨p, key, h0, happend⟩ := step_appendsDescrambled hstep hgrew
    rw [happend.read hwf (by decide)]
    exact ⟨happend.snkLen, scOf_output_of_sync _ _ key h0⟩

end Sys2Proof.Machine
end

section
/-! PROOFS. The synchronizer (41_synchronizer.md): the scan as an iff, one attempt of a search from a state of the invariant, and the
ten attempts of a search that fails. -/

namespace Sys2Proof.Machine

/-! ### The scan (R143, R144) -/

theorem scan_eq_some_iff {w : Window} {n i : Nat} :
    scan w n = some i ↔ i + 376 < n ∧ triple w i = true ∧ ∀ j, j < i → triple w j = false := by
  refine ⟨scan_some, fun ⟨hi, htriple, hleast⟩ => ?_⟩
  cases hscan : scan w n with
  | none => exact absurd htriple (by simp [scan_none hscan i hi])
  | some k =>
    obtain ⟨-, hk, hbelow⟩ := scan_some hscan
    have hik : ¬ i < k := fun hlt => by simp [hbelow i hlt] at htriple
    have hki : ¬ k < i := fun hlt => by simp [hleast k hlt] at hk
    rw [Nat.le_antisymm (Nat.le_of_not_lt hik) (Nat.le_of_not_lt hki)]

theorem scan_eq_none_iff {w : Window} {n : Nat} : scan w n = none ↔ ∀ i, i + 376 < n → triple w i = false := by
  refine ⟨scan_none, fun hnone => Option.eq_none_iff_forall_ne_some.mpr fun i hscan => ?_⟩
  obtain ⟨hi, htriple, -⟩ := scan_some hscan
  simp [hnone i hi] at htriple

/-- Settles O25: the two iffs of the scan; below 377 bytes the range of the second is empty. -/
theorem scanAcceptsTheLeastTriple : Obligations.ScanAcceptsTheLeastTriple := fun _ _ =>
  ⟨fun _ => scan_eq_some_iff, scan_eq_none_iff, fun hn => scan_eq_none_iff.mpr fun _ hi => by omega⟩

/-- Settles O26: the lock is the whole meaning of SYNC_TRIPLE. -/
theorem syncTripleLocksAtItsPosition : Obligations.SyncTripleLocksAtItsPosition := fun i s =>
  ⟨congrArg Host.Outcome.next (lockAt_eq s i), offset_add⟩

/-! ### One attempt of a search -/

/-- `i` is a candidate of the search that goes on at `s` (R148). -/
def Candidate (s : State) (i : Nat) : Prop := searchCandidate s.src s.len.toNat s.cursor.toNat i

theorem candidate_iff (s : State) (i : Nat) : Candidate s i ↔
    i + 376 < min 1024 (s.len.toNat - s.cursor.toNat) ∧ sourceTriple s.src (s.cursor.toNat + i) := Iff.rfl

/-- A candidate is a position at which the triple holds in the window that is read (R142, R148). -/
theorem candidate_iff_triple {s : State} (hlen : s.len = s.srcLen) (i : Nat) :
    Candidate s i ↔ i + 376 < (searched s).wlen.toNat ∧ triple (searched s).w i = true := by
  rw [candidate_iff, searched_wlen, hlen]
  exact and_congr_right fun hi => (searched_triple s hi).symm

/-- The window read an attempt at `s` issues with status ok (R141, R163). -/
def windowRead (s : State) : Txn :=
  .read s.cursor 1024 (some (s.src.readBytes s.cursor.toNat (min 1024 (s.len.toNat - s.cursor.toNat))))

@[simp] theorem searched_retry (s : State) : (searched s).retry = s.retry := by rw [searched_eq]

theorem searched_trace_ok {s : State} (hlen : s.len = s.srcLen) (hok : s.nextStatus = .ok) :
    (searched s).trace = s.trace ++ [windowRead s] := by
  rw [searched_trace, readAnswer_ok s _ _ hok, windowRead, hlen]

/-- Beside the streams, `t` has the registers that fix a search, and BYTES_WRITTEN, as `s` has them. -/
structure KeepsSearch (s t : State) : Prop extends KeepsStreams s t where
  cursor : t.cursor = s.cursor
  len : t.len = s.len
  bytesWritten : t.bytesWritten = s.bytesWritten

namespace KeepsSearch

variable {s t u : State}

theorem trans (h : KeepsSearch s t) (h' : KeepsSearch t u) : KeepsSearch s u :=
  ⟨h.toKeepsStreams.trans h'.toKeepsStreams, h'.cursor.trans h.cursor, h'.len.trans h.len,
    h'.bytesWritten.trans h.bytesWritten⟩

theorem searched (s : State) : KeepsSearch s (searched s) := by
  refine ⟨.searched s, searched_cursor s, ?_, ?_⟩ <;> rw [searched_eq]

theorem searchMiss (s : State) : KeepsSearch s (searchMiss s) := by
  refine ⟨.searchMiss s, ?_, ?_, ?_⟩ <;> (rw [searchMiss_eq]; split <;> rfl)

/-- A failed attempt moves neither CURSOR nor a counter but RETRY (R146, R152). -/
theorem miss (s : State) : KeepsSearch s (Machine.searchMiss (Machine.searched s)) := (searched s).trans (.searchMiss _)

/-- A sync loss leaves CURSOR where it is (R170). -/
theorem packetLoss (s : State) : KeepsSearch s (fetched s).enterRecovery := by
  refine ⟨(KeepsStreams.fetched s).trans (.enterRecovery _), ?_, ?_, ?_⟩ <;> rw [enterRecovery_eq, fetched_eq]

/-- The same search has the same candidates. -/
theorem candidate (h : KeepsSearch s t) (i : Nat) : Candidate t i ↔ Candidate s i := by
  rw [Candidate, h.src, h.len, h.cursor, Candidate]

/-- The same search issues the same read (R148). -/
theorem windowRead (h : KeepsSearch s t) : windowRead t = windowRead s := by
  rw [Machine.windowRead, h.src, h.len, h.cursor, Machine.windowRead]

end KeepsSearch

/-- The lock at window position `i`: CURSOR moves by `i` and one window is read; the streams, the other control registers and the
event history stay (R145, R164). -/
structure LocksAt (s t : State) (i : Nat) : Prop extends KeepsStreams s t where
  drvState : t.drvState = .locked
  cursor : t.cursor.toNat = s.cursor.toNat + i
  retry : t.retry = s.retry
  len : t.len = s.len
  bytesWritten : t.bytesWritten = s.bytesWritten
  failCause : t.failCause = s.failCause
  events : t.events = s.events
  trace : t.trace = s.trace ++ [windowRead s]

section attempt

variable {s : State} (h : Inv s) (hd : s.drvState = .searching) (hok : s.nextStatus = .ok)

include h hd hok

/-- An attempt with a least candidate runs SYNC_TRIPLE there (R143, R145). -/
theorem coreStep_leastCandidate {i : Nat} (hcand : Candidate s i) (hleast : ∀ j, j < i → ¬ Candidate s j) :
    coreStep s = .next ((searched s).lockAt i) := by
  have htriple := candidate_iff_triple (h.lenTrue (.inl hd))
  obtain ⟨hi, hsync⟩ := (htriple i).mp hcand
  refine (coreStep_iff _ _).mpr (.searchHit hd (h.cursor_le_srcLen (.inl hd)) hok i ?_)
  exact scan_eq_some_iff.mpr ⟨hi, hsync, fun j hj =>
    Bool.eq_false_iff.mpr fun hj' => hleast j hj ((htriple j).mpr ⟨by omega, hj'⟩)⟩

/-- An attempt without a candidate is a failed one (R146). -/
theorem coreStep_noCandidate (hnone : ∀ i, ¬ Candidate s i) : coreStep s = .next (searchMiss (searched s)) := by
  refine (coreStep_iff _ _).mpr (.searchNone hd (h.cursor_le_srcLen (.inl hd)) hok ?_)
  exact Option.eq_none_iff_forall_ne_some.mpr fun i hscan =>
    hnone i (searched_scan_some (h.lenTrue (.inl hd)) hscan).1

theorem locksAt_of_candidate {i : Nat} (hcand : Candidate s i) : LocksAt s ((searched s).lockAt i) i := by
  have hlen := h.lenTrue (.inl hd)
  have hfits : s.cursor.toNat + i < 2 ^ 64 := by
    have hi := ((candidate_iff s i).mp hcand).1
    have := offset_lt s.len
    omega
  have hkeep := KeepsSearch.searched s
  have htrace := searched_trace_ok hlen hok
  exact {
    toKeepsStreams := (KeepsStreams.searched s).trans (.lockAt _ i)
    drvState := rfl
    cursor := by rw [lockAt_eq, searched_cursor]; exact offset_add hfits
    retry := by rw [lockAt_eq, searched_eq]
    len := hkeep.len
    bytesWritten := hkeep.bytesWritten
    failCause := by rw [lockAt_eq, searched_eq]
    events := by rw [lockAt_eq, searched_eq]
    trace := htrace }

end attempt

/-- A search step that reaches LOCKED locked at a candidate: the other ways of a search step end in SEARCHING or FAILED (R161). -/
theorem CoreCase.locksAt {s t : State} (hc : CoreCase s t) (h : Inv s) (hd : s.drvState = .searching)
    (ht : t.drvState = .locked) : ∃ i, Candidate s i ∧ LocksAt s t i := by
  cases hc with
  | searchHit _ _ hok i hscan =>
    have hcand : Candidate s i := (searched_scan_some (h.lenTrue (.inl hd)) hscan).1
    exact ⟨i, hcand, locksAt_of_candidate h hd hok hcand⟩
  | searchNone =>
    rw [searchMiss_eq] at ht
    split at ht
    · cases ht
    · cases (searched_drvState s).trans hd ▸ ht
  | searchErr => cases ht
  | waits => cases hd.symm.trans ht
  | initOk hd' => cases hd.symm.trans hd'
  | initErr hd' => cases hd.symm.trans hd'
  | streamEnd hd' => cases hd.symm.trans hd'
  | packetErr hd' => cases hd.symm.trans hd'
  | packetOk hd' => cases hd.symm.trans hd'
  | packetLoss hd' => cases hd.symm.trans hd'

/-! ### What a lock leaves ahead -/

theorem coreCase_of_host_nil {s t : State} (hhost : s.host = []) (hstep : step s = .next t) : CoreCase s t :=
  (coreStep_iff s t).mp (step_quiet s hhost ▸ hstep)

/-- A step at which the host does nothing is a core step; of an idle act only the host's list tells. -/
theorem coreCase_of_hostQuiet {s t : State} (hquiet : s.hostQuiet) (hstep : step s = .next t) :
    ∃ l, CoreCase (s.setHost l) t := by
  rcases hquiet with hnil | ⟨rest, hidle⟩
  · exact ⟨s.host, coreCase_of_host_nil hnil hstep⟩
  · exact ⟨rest, (coreStep_iff _ t).mp ((step_act s .idle rest hidle).symm.trans hstep)⟩

/-- Settles O29: the position of a lock is a candidate, which bounds it by LEN and gives the three sync bytes. -/
theorem lockLeavesThreeSyncBytesAhead : Obligations.LockLeavesThreeSyncBytesAhead := by
  intro s t hinv hquiet hd hstep ht
  obtain ⟨l, hc⟩ := coreCase_of_hostQuiet hquiet hstep
  obtain ⟨i, hcand, hlock⟩ := hc.locksAt (hinv.setHost l) hd ht
  obtain ⟨hi, htriple⟩ := (candidate_iff _ i).mp hcand
  have hcursor : t.cursor.toNat = s.cursor.toNat + i := hlock.cursor
  have hlen : t.len = s.len := hlock.len
  have hahead : t.cursor.toNat + 377 ≤ t.len.toNat := by
    rw [State.setHost_len, State.setHost_cursor] at hi
    rw [hcursor, hlen]
    omega
  refine ⟨hahead, ?_, by omega, hlock.retry, hlock.bytesWritten, hlen, hlock.failCause, hlock.snk, by omega⟩
  rw [hlock.src, hlock.cursor]
  exact htriple

/-- A lock from a byte that is no sync byte moves CURSOR forward: position 0 is no candidate (R151). -/
theorem CoreCase.cursor_lt_of_bad_lead {s t : State} (hc : CoreCase s t) (h : Inv s) (hd : s.drvState = .searching)
    (hbad : s.src.read s.cursor.toNat ≠ Config.SYNC) (ht : t.drvState = .locked) : s.cursor.toNat < t.cursor.toNat := by
  obtain ⟨i, hcand, hlock⟩ := hc.locksAt h hd ht
  have hsync := ((candidate_iff s i).mp hcand).2.1
  have hpos : i ≠ 0 := fun h0 => hbad (by rwa [h0, Nat.add_zero] at hsync)
  rw [hlock.cursor]
  omega

/-- Settles O30: the sync loss leaves CURSOR at the bad lead byte, and the search starts there. -/
theorem relockMovesForward : Obligations.RelockMovesForward := by
  intro s hinv hhost hd hok hlen hbad
  have hfit : s.cursor.toNat + 188 ≤ s.srcLen.toNat := by
    rw [← hinv.lenTrue (.inr hd)]
    omega
  have hloss : CoreCase s (fetched s).enterRecovery := .packetLoss hd hlen hok hfit hbad
  have hkeep := KeepsSearch.packetLoss s
  refine ⟨(fetched s).enterRecovery, (step_iff _ _).mpr (.inl ⟨hhost, hloss⟩), rfl, hkeep.cursor, rfl, hkeep.snk,
    fun u hstep hu => ?_⟩
  have hc := coreCase_of_host_nil (hkeep.host.trans hhost) hstep
  rw [← hkeep.cursor]
  exact hc.cursor_lt_of_bad_lead (hinv.coreCase hloss) rfl (by rwa [hkeep.src, hkeep.cursor]) hu

/-! ### A whole search (R148, R152) -/

theorem State.allOk.nextStatus {s : State} (h : s.allOk) : s.nextStatus = .ok := by
  obtain ⟨hdraws, hrest⟩ := h
  unfold State.nextStatus
  split
  case h_1 => exact hrest
  case h_2 d l hl => exact hdraws d (hl ▸ List.mem_cons_self)

theorem State.allOk.searched {s : State} (h : s.allOk) : (searched s).allOk := by
  rw [searched_eq]
  exact ⟨fun d hd => h.1 d (List.mem_of_mem_tail hd), h.2⟩

/-- A failed attempt before the tenth only counts (R146). -/
theorem searchMiss_more {s : State} (h : s.retry.toNat + 1 < 10) :
    searchMiss s = { s with retry := s.retry + 1 } := by
  rw [searchMiss_eq, if_neg (mt (retry_succ_ten (by omega)).mp (by omega))]

/-- The tenth failed attempt exhausts the search (R147). -/
theorem searchMiss_tenth {s : State} (h : s.retry.toNat + 1 = 10) :
    searchMiss s = { s with retry := s.retry + 1, drvState := .failed, failCause := .syncExhausted,
                            events := s.events ++ [.syncExhausted s.cursor] } := by
  rw [searchMiss_eq, if_pos ((retry_succ_ten (by omega)).mpr h)]

/-- A search that no host act and no I/O error disturbs. -/
structure Searching (s : State) : Prop where
  inv : Inv s
  host : s.host = []
  allOk : s.allOk
  drvState : s.drvState = .searching

/-- `t` is the end of the search at `s` after `n` more failed attempts: FAILED by exhaustion, `n` identical reads issued and nothing
else (R147, R152). -/
structure ExhaustedAfter (n : Nat) (s t : State) : Prop extends KeepsSearch s t where
  drvState : t.drvState = .failed
  failCause : t.failCause = .syncExhausted
  retry : t.retry = 10
  trace : t.trace = s.trace ++ List.replicate n (windowRead s)

theorem steps_cons {k : Nat} {s u : State} (h : step s = .next u) : steps (k + 1) s = steps k u := by
  rw [steps, h]

namespace Searching

variable {s : State}

theorem step_noCandidate (h : Searching s) (hnone : ∀ i, ¬ Candidate s i) :
    step s = .next (searchMiss (searched s)) := by
  rw [step_quiet s h.host]
  exact coreStep_noCandidate h.inv h.drvState h.allOk.nextStatus hnone

theorem step_leastCandidate (h : Searching s) {i : Nat} (hcand : Candidate s i) (hleast : ∀ j, j < i → ¬ Candidate s j) :
    step s = .next ((searched s).lockAt i) := by
  rw [step_quiet s h.host]
  exact coreStep_leastCandidate h.inv h.drvState h.allOk.nextStatus hcand hleast

theorem miss_trace (h : Searching s) : (searchMiss (searched s)).trace = s.trace ++ [windowRead s] :=
  (searchMiss_trace _).trans (searched_trace_ok (h.inv.lenTrue (.inl h.drvState)) h.allOk.nextStatus)

/-- Before the tenth failed attempt the search goes on, with one attempt more counted. -/
theorem miss_more (h : Searching s) (hmore : s.retry.toNat + 1 < 10) :
    Searching (searchMiss (searched s)) ∧ (searchMiss (searched s)).retry.toNat = s.retry.toNat + 1 := by
  have hd : (searched s).drvState = .searching := (searched_drvState s).trans h.drvState
  have hmiss := searchMiss_more (s := searched s) (by rwa [searched_retry])
  refine ⟨⟨h.inv.searched.searchMiss hd, (KeepsSearch.miss s).host.trans h.host, ?_, ?_⟩, ?_⟩
  · rw [hmiss]
    exact h.allOk.searched
  · rw [hmiss]
    exact hd
  · rw [hmiss]
    rw [← searched_retry s] at hmore ⊢
    exact retry_succ (by omega)

/-- The tenth failed attempt ends the search. -/
theorem miss_tenth (h : Searching s) (hten : s.retry.toNat + 1 = 10) : ExhaustedAfter 1 s (searchMiss (searched s)) := by
  have hretry : (searched s).retry.toNat + 1 = 10 := by rwa [searched_retry]
  have hmiss := searchMiss_tenth hretry
  refine ⟨.miss s, ?_, ?_, ?_, h.miss_trace⟩ <;> rw [hmiss]
  exact (retry_succ_ten (by omega)).mpr hretry

/-- One failed attempt before the others. -/
theorem miss_first {n : Nat} {t : State} (h : Searching s)
    (hrest : ExhaustedAfter n (searchMiss (searched s)) t) : ExhaustedAfter (n + 1) s t := by
  refine ⟨(KeepsSearch.miss s).trans hrest.toKeepsSearch, hrest.drvState, hrest.failCause, hrest.retry, ?_⟩
  rw [hrest.trace, h.miss_trace, (KeepsSearch.miss s).windowRead, List.append_assoc]
  rfl

/-- By induction on the attempts that are left: each is the same attempt, since a failed one moves nothing but RETRY (R152). -/
theorem exhausts {n : Nat} (h : Searching s) (hnone : ∀ i, ¬ Candidate s i) (hleft : s.retry.toNat + (n + 1) = 10) :
    ∃ t, steps (n + 1) s = .next t ∧ ExhaustedAfter (n + 1) s t := by
  induction n generalizing s with
  | zero => exact ⟨_, steps_cons (h.step_noCandidate hnone), h.miss_tenth hleft⟩
  | succ n ih =>
    obtain ⟨hsearching, hretry⟩ := h.miss_more (by omega)
    have hnone' (i : Nat) : ¬ Candidate (searchMiss (searched s)) i := mt ((KeepsSearch.miss s).candidate i).mp (hnone i)
    obtain ⟨t, hsteps, hexhausted⟩ := ih hsearching hnone' (by omega)
    exact ⟨t, (steps_cons (h.step_noCandidate hnone)).trans hsteps, h.miss_first hexhausted⟩

end Searching

/-- Settles O28: without a candidate by the induction on the attempts; with one by the lock of the first attempt. -/
theorem searchSucceedsAtOnceOrFailsAfterTen : Obligations.SearchSucceedsAtOnceOrFailsAfterTen := by
  intro s hinv hhost hall hd hretry
  have h : Searching s := ⟨hinv, hhost, hall, hd⟩
  refine ⟨fun i hcand => ?_, fun hnone => ?_, fun i hcand hleast => ?_⟩
  · have hi := ((candidate_iff s i).mp hcand).1
    omega
  · obtain ⟨t, hsteps, ht⟩ := h.exhausts (n := 9) hnone (by rw [hretry]; rfl)
    exact ⟨t, hsteps, ht.drvState, ht.failCause, ht.retry, ht.cursor, ht.bytesWritten, ht.snk, ht.snkLen, ht.trace⟩
  · have hlock := locksAt_of_candidate hinv hd hall.nextStatus hcand
    exact ⟨_, steps_cons (h.step_leastCandidate hcand hleast), hlock.drvState, hlock.cursor, hlock.retry, hlock.snk,
      hlock.snkLen, hlock.trace⟩

end Sys2Proof.Machine
end

section
/-! PROOFS. The ways of a core step, read forwards: which of them a state takes, and what a consumed packet moves (42_driver.md R161,
R166, R169). -/

namespace Sys2Proof.Machine

/-! ### A core step has one way -/

theorem CoreCase.step_eq {s t : State} (hc : CoreCase s t) (hhost : s.host = []) : step s = .next t :=
  (step_iff s t).mpr (.inl ⟨hhost, hc⟩)

/-- The core goes on in one way (R161). -/
theorem CoreCase.unique {s t u : State} (hc : CoreCase s t) (hc' : CoreCase s u) : t = u :=
  Host.Outcome.next.inj (((coreStep_iff s t).mpr hc).symm.trans ((coreStep_iff s u).mpr hc'))

theorem State.terminal_iff (s : State) : s.terminal = true ↔ s.drvState = .done ∨ s.drvState = .failed := by
  simp [State.terminal]

/-- In a terminal state no core step is enabled (R171; log 3). -/
theorem step_of_terminal {s : State} (hterm : s.terminal = true) (hhost : s.host = []) : step s = .next s :=
  CoreCase.step_eq (.waits (.inr (s.terminal_iff.mp hterm))) hhost

/-! ### A failed attempt -/

@[simp] theorem searched_failCause (s : State) : (searched s).failCause = s.failCause := by rw [searched_eq]
@[simp] theorem searched_events (s : State) : (searched s).events = s.events := by rw [searched_eq]

/-- A failed attempt counts (R146). -/
theorem miss_retry {s : State} (h : s.retry.toNat ≤ 9) : (searchMiss (searched s)).retry.toNat = s.retry.toNat + 1 := by
  rw [← retry_succ h, ← searched_retry s, searchMiss_eq]
  split <;> rfl

/-- The tenth failed attempt enters FAILED, another one leaves DRV_STATE (R146, R147). -/
theorem miss_drvState {s : State} (h : s.retry.toNat ≤ 9) :
    (searchMiss (searched s)).drvState = if s.retry.toNat + 1 = 10 then .failed else s.drvState := by
  have hten := retry_succ_ten h
  rw [← searched_retry s] at hten ⊢
  rw [searchMiss_eq]
  split
  case isTrue hlast => rw [if_pos (hten.mp hlast)]
  case isFalse hmore =>
    rw [if_neg (mt hten.mpr hmore)]
    exact searched_drvState s

/-! ### A consumed packet -/

theorem packetDelivered_nextStatus (s : State) : (packetDelivered s).nextStatus = s.dropStatus.nextStatus := by
  rw [packetDelivered, deliver_eq]
  rfl

/-- The packet at CURSOR is consumed and both counters advance; DRV_STATE and LEN stay, and two statuses are used (R169). -/
structure AdvancesPacket (s t : State) : Prop extends ConsumesPacket s t where
  drvState : t.drvState = s.drvState
  len : t.len = s.len
  bytesWritten : t.bytesWritten = s.bytesWritten + 188#64
  ioDraws : t.ioDraws = s.ioDraws.tail.tail
  ioRest : t.ioRest = s.ioRest

/-- LEAD_OK whose append succeeds (R169). -/
theorem packetConsumed_ok {s : State} (hfit : s.cursor.toNat + 188 ≤ s.srcLen.toNat)
    (hok : s.dropStatus.nextStatus = .ok) : AdvancesPacket s (packetConsumed s) := by
  have heq := appendPacket_ok (packetDelivered s) ((packetDelivered_nextStatus s).trans hok)
  have hconsumes : ConsumesPacket s (packetConsumed s) := by
    have hgrew : (packetConsumed s).snkLen = s.snkLen + 188 := by
      rw [packetConsumed_eq, heq]
      exact congrArg (· + 188) (KeepsStreams.packetDelivered s).snkLen
    rcases packetConsumed_streams hfit with ⟨hkeep, -⟩ | hconsumes
    · have hlen := hkeep.snkLen
      omega
    · exact hconsumes
  refine ⟨hconsumes, ?_, ?_, ?_, ?_, ?_⟩ <;> rw [packetConsumed_eq, heq, packetDelivered, deliver_eq] <;> rfl

/-- LEAD_OK whose append fails (R198). -/
theorem packetConsumed_err {s : State} (herr : s.dropStatus.nextStatus = .err) : (packetConsumed s).drvState = .failed := by
  rw [packetConsumed_eq, appendPacket_err _ ((packetDelivered_nextStatus s).trans herr)]

/-- LEAD_OK reads the packet into P, whatever its append is answered with (R166). -/
theorem packetConsumed_p (s : State) : (packetConsumed s).p = packetAt s.src s.cursor.toNat := by
  have hp : (packetDelivered s).p = packetAt s.src s.cursor.toNat := by
    rw [packetDelivered, deliver_eq]
    rfl
  rw [packetConsumed_eq]
  rcases ok_or_err (packetDelivered s).nextStatus with hok | herr
  · rw [appendPacket_ok _ hok, hp]
  · rw [appendPacket_err _ herr, hp]

end Sys2Proof.Machine
end

section
/-! PROOFS. Every run ends (42_driver.md R179): a count of the steps that are left, which every core step of a run lowers. -/

namespace Sys2Proof.Machine

/-! ### The count -/

/-- How many packets from offset `a` on are known to have the sync byte, counted to two: so many can be consumed before a loss
(R178). -/
def syncAhead (m : Memory) (a : Nat) : Nat :=
  if m.read a = Config.SYNC then if m.read (a + 188) = Config.SYNC then 2 else 1 else 0

theorem syncAhead_of_bad {m : Memory} {a : Nat} (h : m.read a ≠ Config.SYNC) : syncAhead m a = 0 := if_neg h

theorem syncAhead_of_triple {m : Memory} {a : Nat} (h : sourceTriple m a) : syncAhead m a = 2 := by
  obtain ⟨h0, h1, -⟩ := h
  rw [syncAhead, if_pos h0]
  exact if_pos h1

/-- Past a sync byte at most one packet less is known. -/
theorem syncAhead_next {m : Memory} {a : Nat} (h : m.read a = Config.SYNC) : syncAhead m a ≤ syncAhead m (a + 188) + 1 := by
  rw [syncAhead, if_pos h, syncAhead]
  split
  · split <;> omega
  · omega

/-- Steps left in LOCKED with `room` bytes ahead when `spent` of the two packets a lock promises are consumed: the packets, eleven
for each loss that can still come, the end of the stream. -/
def lockedBound (room spent : Nat) : Nat := room / 188 + 11 * ((room + 188 * spent) / 376) + 1

/-- A packet consumed, with at most one more spent, takes a step off the count. -/
theorem lockedBound_packet {room spent spent' : Nat} (hroom : 188 ≤ room) (hspent : spent' ≤ spent + 1) :
    lockedBound (room - 188) spent' < lockedBound room spent := by
  have hlosses : (room - 188 + 188 * spent') / 376 ≤ (room + 188 * spent) / 376 := Nat.div_le_div_right (by omega)
  unfold lockedBound
  omega

/-- A loss, at which both promised packets are spent, leaves ten attempts of a search (R170). -/
theorem lockedBound_loss (room : Nat) : 10 + lockedBound room 0 < lockedBound room 2 := by
  unfold lockedBound
  omega

theorem lockedBound_mono {room room' : Nat} (h : room' ≤ room) : lockedBound room' 0 ≤ lockedBound room 0 := by
  have hpackets : room' / 188 ≤ room / 188 := Nat.div_le_div_right h
  have hlosses : room' / 376 ≤ room / 376 := Nat.div_le_div_right h
  unfold lockedBound
  omega

/-- At most so many core steps are left of the run (R179). -/
def stepsLeft (s : State) : Nat :=
  match s.drvState with
  | .init => 11 + lockedBound s.srcLen.toNat 0
  | .searching => 10 - s.retry.toNat + lockedBound (s.srcLen.toNat - s.cursor.toNat) 0
  | .locked => lockedBound (s.srcLen.toNat - s.cursor.toNat) (2 - syncAhead s.src s.cursor.toNat)
  | .done => 0
  | .failed => 0

theorem stepsLeft_init {s : State} (hd : s.drvState = .init) : stepsLeft s = 11 + lockedBound s.srcLen.toNat 0 := by
  rw [stepsLeft, hd]

theorem stepsLeft_searching {s : State} (hd : s.drvState = .searching) :
    stepsLeft s = 10 - s.retry.toNat + lockedBound (s.srcLen.toNat - s.cursor.toNat) 0 := by
  rw [stepsLeft, hd]

theorem stepsLeft_locked {s : State} (hd : s.drvState = .locked) :
    stepsLeft s = lockedBound (s.srcLen.toNat - s.cursor.toNat) (2 - syncAhead s.src s.cursor.toNat) := by
  rw [stepsLeft, hd]

theorem stepsLeft_failed {s : State} (hd : s.drvState = .failed) : stepsLeft s = 0 := by
  rw [stepsLeft, hd]

/-- No step is left exactly in the terminal states. -/
theorem stepsLeft_eq_zero_iff (s : State) : stepsLeft s = 0 ↔ s.terminal = true := by
  cases hd : s.drvState <;> simp [stepsLeft, State.terminal, lockedBound, hd]

theorem stepsLeft_pos {s : State} (h : s.terminal = false) : 0 < stepsLeft s :=
  Nat.pos_of_ne_zero fun h0 => by simp [(stepsLeft_eq_zero_iff s).mp h0] at h

/-! ### Every core step of a run lowers it -/

/-- A lock ends the search and promises two packets (R178). -/
theorem LocksAt.stepsLeft_lt {s t : State} {i : Nat} (hlock : LocksAt s t i) (hcand : Candidate s i)
    (hd : s.drvState = .searching) (hretry : s.retry.toNat ≤ 9) : stepsLeft t < stepsLeft s := by
  have hsync : syncAhead t.src t.cursor.toNat = 2 := by
    rw [hlock.src, hlock.cursor]
    exact syncAhead_of_triple ((candidate_iff s i).mp hcand).2
  have hmono : lockedBound (s.srcLen.toNat - (s.cursor.toNat + i)) 0 ≤ lockedBound (s.srcLen.toNat - s.cursor.toNat) 0 :=
    lockedBound_mono (by omega)
  rw [stepsLeft_locked hlock.drvState, hsync, hlock.srcLen, hlock.cursor, Nat.sub_self, stepsLeft_searching hd]
  omega

/-- A failed attempt counts, or ends the run (R146, R147). -/
theorem stepsLeft_searchMiss {s : State} (hd : s.drvState = .searching) (hretry : s.retry.toNat ≤ 9) :
    stepsLeft (searchMiss (searched s)) < stepsLeft s := by
  have hkeep := KeepsSearch.miss s
  have hstate := miss_drvState hretry
  rw [stepsLeft_searching hd]
  by_cases hten : s.retry.toNat + 1 = 10
  · rw [if_pos hten] at hstate
    rw [stepsLeft_failed hstate]
    omega
  · rw [if_neg hten, hd] at hstate
    rw [stepsLeft_searching hstate, miss_retry hretry, hkeep.srcLen, hkeep.cursor]
    omega

/-- A consumed packet leaves one packet less, or its failed append ends the run (R169, R198). -/
theorem stepsLeft_packetConsumed {s : State} (hd : s.drvState = .locked) (hfit : s.cursor.toNat + 188 ≤ s.srcLen.toNat)
    (hlead : s.src.read s.cursor.toNat = Config.SYNC) : stepsLeft (packetConsumed s) < stepsLeft s := by
  rcases ok_or_err s.dropStatus.nextStatus with hok | herr
  · have hadv := packetConsumed_ok hfit hok
    have hnext := syncAhead_next hlead
    rw [stepsLeft_locked (hadv.drvState.trans hd), stepsLeft_locked hd, hadv.srcLen, hadv.src, hadv.cursor, ← Nat.sub_sub]
    exact lockedBound_packet (by omega) (by omega)
  · rw [stepsLeft_failed (packetConsumed_err herr), stepsLeft_locked hd]
    exact Nat.succ_pos _

/-- Every core step of a run takes at least one off the count. -/
theorem CoreCase.stepsLeft_lt {s t : State} (hc : CoreCase s t) (h : Inv s) (hs : s.started = true)
    (hrun : s.terminal = false) : stepsLeft t < stepsLeft s := by
  have hpos := stepsLeft_pos hrun
  cases hc with
  | waits hw =>
    rcases hw with ⟨-, hns⟩ | hterm
    · simp [hs] at hns
    · simp [s.terminal_iff.mpr hterm] at hrun
  | initOk hd =>
    have hfresh : stepsLeft (lengthTaken s) = 10 + lockedBound s.srcLen.toNat 0 := stepsLeft_searching rfl
    rw [stepsLeft_init hd]
    refine hfresh.trans_lt ?_
    omega
  | initErr | searchErr | packetErr => exact hpos
  | searchHit hd ha hok i hscan =>
    have hcand : Candidate s i := (searched_scan_some (h.lenTrue (.inl hd)) hscan).1
    exact (locksAt_of_candidate h hd hok hcand).stepsLeft_lt hcand hd (h.retrySearching hd)
  | searchNone hd => exact stepsLeft_searchMiss hd (h.retrySearching hd)
  | streamEnd => exact hpos
  | packetOk hd _ _ hfit hlead => exact stepsLeft_packetConsumed hd hfit hlead
  | packetLoss hd _ _ _ hlead =>
    have hkeep := KeepsSearch.packetLoss s
    rw [stepsLeft_searching rfl, hkeep.srcLen, hkeep.cursor, stepsLeft_locked hd, syncAhead_of_bad hlead]
    exact lockedBound_loss _

/-! ### Runs -/

/-- By induction on the count: with enough steps the run is over; a step in a terminal state stays there (log 3). -/
theorem Inv.ends {s : State} (h : Inv s) (hhost : s.host = []) (hs : s.started = true) {n : Nat} (hn : stepsLeft s ≤ n) :
    ∃ t, steps n s = .next t ∧ t.terminal = true := by
  induction n generalizing s with
  | zero => exact ⟨s, rfl, (stepsLeft_eq_zero_iff s).mp (Nat.le_zero.mp hn)⟩
  | succ n ih =>
    cases hterm : s.terminal with
    | true =>
      rw [steps_cons (step_of_terminal hterm hhost)]
      exact ih h hhost hs (by rw [(stepsLeft_eq_zero_iff s).mpr hterm]; exact Nat.zero_le n)
    | false =>
      obtain ⟨u, hc⟩ := h.exists_coreCase
      have hlt := hc.stepsLeft_lt h hs hterm
      rw [steps_cons (hc.step_eq hhost)]
      exact ih (h.coreCase hc) (hc.frame.host.trans hhost) (hc.frame.started.trans hs) (by omega)

/-- Settles O39: the count of the steps left in INIT is the bound. A run that ends sooner stays where it ended (log 3). -/
theorem everyRunEndsWithinTheStepBound : Obligations.EveryRunEndsWithinTheStepBound := by
  intro s h hhost hd hs
  refine h.ends hhost hs ?_
  rw [stepsLeft_init hd]
  unfold lockedBound
  omega

end Sys2Proof.Machine
end

section
/-! PROOFS. One attempt of a search with its whole effect (42_driver.md R163), and STEP_INIT (R162). -/

namespace Sys2Proof.Machine

/-- Settles O31: the two ways of STEP_INIT. -/
theorem initStepTakesTheLength : Obligations.InitStepTakesTheLength := by
  intro s hhost hd hs
  refine ⟨fun hok => ?_, fun herr => ?_⟩
  · rw [(CoreCase.initOk hd hs hok).step_eq hhost, initOk_eq, srcLenAnswer_ok s hok]
  · rw [(CoreCase.initErr hd hs herr).step_eq hhost, enterFailed_eq, afterSrcLen_eq, srcLenAnswer_err s herr]

/-- A search has a least candidate or none. -/
theorem leastCandidate_or_none (s : State) :
    (∃ i, Candidate s i ∧ ∀ j, j < i → ¬ Candidate s j) ∨ ∀ i, ¬ Candidate s i := by
  classical
  by_cases h : ∃ i, Candidate s i
  · exact .inl ⟨Nat.find h, Nat.find_spec h, fun j hj => Nat.find_min h hj⟩
  · exact .inr (not_exists.mp h)

/-- There is one least candidate. -/
theorem leastCandidate_unique {s : State} {i j : Nat} (hi : Candidate s i) (hleast : ∀ k, k < i → ¬ Candidate s k)
    (hj : Candidate s j) (hleast' : ∀ k, k < j → ¬ Candidate s k) : i = j :=
  Nat.le_antisymm (Nat.le_of_not_lt fun hlt => hleast j hlt hj) (Nat.le_of_not_lt fun hlt => hleast' i hlt hi)

/-- What every answered attempt does: the window is filled from the source, one read is recorded, and the rest of the state but for
the registers an attempt decides is left (R141, R163). -/
structure ReadsWindow (s t : State) : Prop where
  wlen : t.wlen.toNat = min 1024 (s.len.toNat - s.cursor.toNat)
  window : ∀ k, k < min 1024 (s.len.toNat - s.cursor.toNat) → byteAt t.w k = s.src.read (s.cursor.toNat + k)
  trace : t.trace = s.trace ++ [windowRead s]
  frame : t = { s with
    drvState := t.drvState, cursor := t.cursor, retry := t.retry, failCause := t.failCause, w := t.w, wlen := t.wlen,
    ioDraws := s.ioDraws.tail, trace := t.trace, events := t.events, freeCount := t.freeCount }

namespace ReadsWindow

variable {s t : State}

theorem searched (hlen : s.len = s.srcLen) (hok : s.nextStatus = .ok) : ReadsWindow s (searched s) where
  wlen := by rw [searched_wlen, hlen]
  window := fun k hk => searched_byte s (hlen ▸ hk)
  trace := searched_trace_ok hlen hok
  frame := by
    obtain ⟨w, wlen, heq⟩ : ∃ w wlen, Machine.searched s = { s with
        ioDraws := s.ioDraws.tail, trace := s.trace ++ [.read s.cursor 1024 (s.readAnswer s.cursor 1024)],
        w := w, wlen := wlen, freeCount := s.freeCount + 1 } := ⟨_, _, searched_eq s⟩
    rw [heq]

theorem lockAt (h : ReadsWindow s t) (i : Nat) : ReadsWindow s (t.lockAt i) :=
  ⟨h.wlen, h.window, h.trace, congrArg (fun u => u.lockAt i) h.frame⟩

theorem searchMiss (h : ReadsWindow s t) : ReadsWindow s (searchMiss t) := by
  rw [searchMiss_eq]
  split
  · exact ⟨h.wlen, h.window, h.trace, congrArg (fun u => { u with
      retry := u.retry + 1, drvState := .failed, failCause := .syncExhausted,
      events := u.events ++ [Event.syncExhausted u.cursor] }) h.frame⟩
  · exact ⟨h.wlen, h.window, h.trace, congrArg (fun u => { u with retry := u.retry + 1 }) h.frame⟩

end ReadsWindow

/-- Settles O27: an answered attempt reads the window and then locks at the least candidate or fails; a read error ends the run. -/
theorem searchStepMakesOneAttempt : Obligations.SearchStepMakesOneAttempt := by
  intro s h hhost hd wl
  refine ⟨fun hok => ?_, fun herr => ?_⟩
  · have hread := ReadsWindow.searched (h.lenTrue (.inl hd)) hok
    rcases leastCandidate_or_none s with ⟨i, hcand, hleast⟩ | hnone
    · have hlock := locksAt_of_candidate h hd hok hcand
      have hread := hread.lockAt i
      refine ⟨_, (step_quiet s hhost).trans (coreStep_leastCandidate h hd hok hcand hleast), hread.wlen, hread.window,
        hread.trace, hread.frame, fun j hj hleast' => ?_, fun hnone => absurd hcand (hnone i)⟩
      obtain rfl := leastCandidate_unique hcand hleast hj hleast'
      exact ⟨hlock.drvState, hlock.cursor, hlock.retry, hlock.failCause, hlock.events⟩
    · have hretry := h.retrySearching hd
      have hread := hread.searchMiss
      refine ⟨_, (step_quiet s hhost).trans (coreStep_noCandidate h hd hok hnone), hread.wlen, hread.window, hread.trace,
        hread.frame, fun i hi => absurd hi (hnone i), fun _ => ⟨(KeepsSearch.miss s).cursor, miss_retry hretry,
        fun hmore => ?_, fun hten => ?_⟩⟩
      · rw [searchMiss_more (by rw [searched_retry]; omega)]
        exact ⟨(searched_drvState s).trans hd, searched_failCause s, searched_events s⟩
      · rw [searchMiss_tenth (by rwa [searched_retry]), searched_events, searched_cursor]
        exact ⟨rfl, rfl, rfl⟩
  · have hc : CoreCase s (windowReadFailed s) := .searchErr hd (h.cursor_le_srcLen (.inl hd)) herr
    have hread := readAnswer_err s s.cursor 1024 herr
    refine ⟨_, hc.step_eq hhost, ?_⟩
    rw [windowReadFailed, enterFailed_eq, loseWindow_eq, afterRead_eq, hread]
    exact ⟨rfl, rfl, rfl, rfl, rfl⟩

end Sys2Proof.Machine
end

section
/-! PROOFS. The meanings of the lead patterns (42_driver.md R169, R170), and that a step runs what it decodes (R163, R166, R168). -/

namespace Sys2Proof.Machine

/-! ### LEAD_LOSS -/

/-- Settles O34: entry into recovery is the whole meaning of LEAD_LOSS. -/
theorem leadLossOnlyReentersSearching : Obligations.LeadLossOnlyReentersSearching := fun _ s =>
  congrArg Host.Outcome.next (enterRecovery_eq s)

/-! ### LEAD_OK -/

/-- Only LEAD_OK writes the sink: every other way of a core step leaves it (R169). -/
theorem CoreCase.eq_packetConsumed {s t : State} (hc : CoreCase s t) (hgrew : t.snkLen ≠ s.snkLen) :
    s.drvState = .locked ∧ t = packetConsumed s := by
  have hlead := hc.sync_of_append hgrew
  cases hc with
  | packetOk hd => exact ⟨hd, rfl⟩
  | packetLoss _ _ _ _ hbad => exact absurd hlead hbad
  | waits | streamEnd => exact absurd rfl hgrew
  | initOk => exact absurd (KeepsStreams.lengthTaken s).snkLen hgrew
  | initErr => exact absurd ((KeepsStreams.afterSrcLen s).trans (.enterFailed _ .srcIo (.srcIoError 0))).snkLen hgrew
  | searchErr =>
    exact absurd ((KeepsStreams.loseWindow _).trans (.enterFailed _ .srcIo (.srcIoError s.cursor))).snkLen hgrew
  | searchHit => exact absurd ((KeepsStreams.searched s).trans (.lockAt _ _)).snkLen hgrew
  | searchNone => exact absurd (KeepsSearch.miss s).snkLen hgrew
  | packetErr =>
    exact absurd ((KeepsStreams.losePacket _).trans (.enterFailed _ .srcIo (.srcIoError s.cursor))).snkLen hgrew

/-- A step that appends is a core step: no act of the host touches the sink (R54, R223). -/
theorem coreCase_of_append {s t : State} (h : step s = .next t) (hgrew : t.snkLen ≠ s.snkLen) :
    ∃ l, CoreCase (s.setHost l) t := by
  rcases (step_iff s t).mp h with ⟨-, hcore⟩ | ⟨a, rest, -, hhost⟩
  · exact ⟨s.host, hcore⟩
  · cases hhost with
    | idle hcore => exact ⟨rest, hcore⟩
    | rst | attach => exact absurd rfl hgrew
    | start k =>
      unfold startStep at hgrew
      split at hgrew <;> exact absurd rfl hgrew

/-- A step that changes the sink's bytes changes their number (R54). -/
theorem snkLen_ne_of_sink_ne {s t : State} (h : step s = .next t) (hsink : t.snk ≠ s.snk ∨ t.snkLen ≠ s.snkLen) :
    t.snkLen ≠ s.snkLen := by
  obtain ⟨-, ⟨hsnk, hlen⟩ | ⟨out, happend⟩⟩ := step_streamsStep h
  · exact absurd hsink (by simp [hsnk, hlen])
  · rw [happend.snkLen]
    omega

theorem deliver_nextStatus (s : State) (r : PacketResult) : (s.deliver r).nextStatus = s.nextStatus := by
  rw [deliver_eq]
  rfl

/-- Settles O33: what appends is LEAD_OK on a packet with the sync byte; its meaning is a delivery and then the append's two ways. -/
theorem leadOkDescramblesAppendsAdvances : Obligations.LeadOkDescramblesAppendsAdvances := by
  refine ⟨fun s t hstep hsink => ?_, fun s hwf => ?_⟩
  · have hgrew := snkLen_ne_of_sink_ne hstep hsink
    obtain ⟨l, hc⟩ := coreCase_of_append hstep hgrew
    have hlead := hc.sync_of_append hgrew
    obtain ⟨hd, rfl⟩ := hc.eq_packetConsumed hgrew
    refine ⟨hd, hlead, ?_⟩
    rw [packetConsumed_p]
    exact (fetched_lead _).trans hlead
  · intro r
    have hstatus := deliver_nextStatus s r
    refine ⟨appendPacket (s.deliver r), execLeadOk_eq s, ?_⟩
    rcases ok_or_err s.nextStatus with hok | herr
    · rw [appendPacket_ok _ (hstatus.trans hok), deliver_eq, hok]
      refine ⟨rfl, rfl, rfl, rfl, rfl, fun _ => ⟨rfl, rfl, rfl, fun a hlo hhi => ?_, fun a ha => ?_, rfl, rfl, rfl⟩, by simp,
        rfl⟩
      · dsimp only
        rw [Memory.read_writeBytes _ _ _ _ hwf, toList_length, if_pos ⟨hlo, hhi⟩]
        rfl
      · dsimp only
        rw [Memory.read_writeBytes _ _ _ _ hwf, toList_length, if_neg (by simp only [Config.PKT]; omega)]
    · rw [appendPacket_err _ (hstatus.trans herr), deliver_eq, herr]
      exact ⟨rfl, rfl, rfl, rfl, rfl, by simp, fun _ => ⟨rfl, rfl, rfl, rfl, rfl, rfl, rfl⟩, rfl⟩

/-! ### A step runs what it decodes -/

theorem decode_lead_packetBytes (s : State) : decode .lead (packetBytes s) = .ok (leadOf (s.src.read s.cursor.toNat)) := by
  have hbytes : (fetched s).p.toList = packetBytes s := toList_ofList _ (Memory.readBytes_length _ _ _)
  rw [← hbytes, decode_lead_toList, fetched_lead]

/-- Format TSHDR decodes a whole packet to its class (R88). -/
theorem decode_tshdr_toList (p : Packet) : decode .tshdr p.toList = .ok (classOf p).toInstr := by
  obtain ⟨b0, b1, b2, b3, b4, l, hl⟩ : ∃ b0 b1 b2 b3 b4 l, p.toList = b0 :: b1 :: b2 :: b3 :: b4 :: l := by
    have hlen : 5 ≤ p.toList.length := by
      rw [toList_length]
      decide
    match p.toList, hlen with
    | b0 :: b1 :: b2 :: b3 :: b4 :: l, _ => exact ⟨b0, b1, b2, b3, b4, l, rfl⟩
  rw [hl, decodeTshdr_five (headerCase_classOfHeader b0 b1 b2 b3 b4), classOf]
  simp only [byteAt, hl]
  rfl

/-- A triple that is decoded lies inside the valid bytes of the window (R100). -/
theorem decode_win3_ok {k : Nat} {l : List Byte} {i : Instr} (h : decode (.win3 k) l = .ok i) :
    (k + 376 < l.length ∧ l.length ≤ 1024) ∧ triple (ofList 1024 l) k = true ∧ i = .syncTriple k := by
  simp only [decode, decodeWin3] at h
  split at h
  case isTrue hin =>
    split at h
    · cases h
      exact ⟨hin, ‹_›, rfl⟩
    · cases h
  case isFalse => cases h

theorem decode_win3_noTriple {k : Nat} {l : List Byte} (h : decode (.win3 k) l = .error .noTriple) :
    triple (ofList 1024 l) k = false := by
  simp only [decode, decodeWin3] at h
  split at h
  · split at h
    · cases h
    · exact Bool.eq_false_iff.mpr ‹_›
  · cases h

/-- The triple test sees the bytes that were read, not what the window holds beyond them (R100, R142). -/
theorem searched_triple_bytes (s : State) {k : Nat} (hk : k + 376 < (windowBytes s).length)
    (hmax : (windowBytes s).length ≤ 1024) :
    triple (searched s).w k = triple (ofList 1024 (windowBytes s)) k := by
  have hbyte {t : Nat} (ht : t < (windowBytes s).length) : byteAt (searched s).w t = byteAt (ofList 1024 (windowBytes s)) t := by
    rw [searched, byteAt_fillWindow _ _ (by omega) ht, byteAt_ofList _ (by omega)]
  rw [Bool.eq_iff_iff, triple_iff, triple_iff, hbyte (by omega), hbyte (by omega), hbyte hk]

/-- Settles O35: the lead pattern of the packet read, the class inside LEAD_OK, the least triple of the window read. -/
theorem stepRunsTheDecodedInstruction : Obligations.StepRunsTheDecodedInstruction := by
  refine ⟨fun s i hhost hd hlen hok hfit hdec => ?_, fun s i hdec => ?_, fun s i k hhost hd hok ha => ?_⟩
  · obtain rfl : leadOf (s.src.read s.cursor.toNat) = i := Except.ok.inj ((decode_lead_packetBytes s).symm.trans hdec)
    rw [step_quiet s hhost, coreStep, hd]
    exact stepLocked_read s hlen hok hfit
  · obtain rfl : (classOf s.p).toInstr = i := Except.ok.inj ((decode_tshdr_toList s.p).symm.trans hdec)
    refine ⟨s.deliver (decrypt s.p s.key), ?_, execLeadOk_eq s⟩
    rw [exec_toInstr, runClass_classOf]
  · intro l hdec hbelow
    obtain ⟨⟨hk, hmax⟩, htriple, rfl⟩ := decode_win3_ok hdec
    have hwlen : (searched s).wlen.toNat = l.length := (searched_wlen s).trans (Memory.readBytes_length _ _ _).symm
    have hscan : scan (searched s).w (searched s).wlen.toNat = some k := by
      refine scan_eq_some_iff.mpr ⟨hwlen ▸ hk, (searched_triple_bytes s hk hmax).trans htriple, fun j hj => ?_⟩
      exact (searched_triple_bytes s (Nat.lt_trans (by omega) hk) hmax).trans (decode_win3_noTriple (hbelow j hj))
    rw [step_quiet s hhost, coreStep, hd]
    exact (stepSearch_read s ha hok).trans (searchWindow_some hscan)

end Sys2Proof.Machine
end

section
/-! PROOFS. The state graph (42_driver.md R161), its terminal states (R171), the end of the stream (R167) and the movement of CURSOR
(R174). -/

namespace Sys2Proof.Machine

/-! ### Which pairs a step takes -/

/-- A core step leaves DRV_STATE or takes a listed pair (R161). -/
theorem CoreCase.transition {s t : State} (hc : CoreCase s t) :
    t.drvState = s.drvState ∨ coreTransition s.drvState t.drvState = true := by
  cases hc with
  | waits => exact .inl rfl
  | initOk hd | initErr hd | searchErr hd | searchHit hd | streamEnd hd | packetErr hd | packetLoss hd =>
    rw [hd]
    exact .inr rfl
  | searchNone hd =>
    rw [searchMiss_eq, hd]
    split
    · exact .inr rfl
    · exact .inl ((searched_drvState s).trans hd)
  | packetOk hd _ _ hfit =>
    rcases ok_or_err s.dropStatus.nextStatus with hok | herr
    · exact .inl (packetConsumed_ok hfit hok).drvState
    · refine .inr ?_
      rw [hd]
      exact congrArg (coreTransition .locked) (packetConsumed_err herr)

theorem startStep_drvState (k : Key) (s : State) : (startStep k s).drvState = s.drvState := by
  unfold startStep
  split <;> rfl

/-- A step leaves DRV_STATE, takes a listed pair, or is a reset step (R161, R220). -/
theorem step_transition {s t : State} (h : step s = .next t) :
    t.drvState = s.drvState ∨ coreTransition s.drvState t.drvState = true ∨
      (t.drvState = .init ∧ ∃ rest, s.host = .rst :: rest) := by
  rcases (step_iff s t).mp h with ⟨-, hcore⟩ | ⟨a, rest, hhost, hact⟩
  · exact hcore.transition.imp_right .inl
  · cases hact with
    | idle hcore => exact hcore.transition.imp_right .inl
    | rst => exact .inr (.inr ⟨rfl, rest, hhost⟩)
    | start k => exact .inl (startStep_drvState k _)
    | attach => exact .inl rfl

/-- Settles O36: each condition names the way of the core step, which is the only one; the pairs come from `step_transition`. -/
theorem stateGraphHasTheseTransitionsOnly : Obligations.StateGraphHasTheseTransitionsOnly := by
  refine ⟨fun s t h hhost hstep => ?_, fun s t => step_transition⟩
  intro miss
  have hc := coreCase_of_host_nil hhost hstep
  have hfit (hd : s.drvState = .locked) (hlen : 188 ≤ s.len.toNat - s.cursor.toNat) :
      s.cursor.toNat + 188 ≤ s.srcLen.toNat := by
    rw [← h.lenTrue (.inr hd)]
    omega
  refine ⟨fun hd hs => ?_, fun hd hs => ?_, fun hd hok hcand => ?_, fun hd hok hmiss => ?_, fun hd herr => ?_,
    fun hd hlen => ?_, fun hd hlen herr => ?_, fun hd hlen hok hlead => ?_, fun hd hlen hok hlead => ?_, fun hd => ?_,
    fun hd => ?_⟩
  · rcases ok_or_err s.nextStatus with hok | herr
    · rw [hc.unique (.initOk hd hs hok), hok]
      rfl
    · rw [hc.unique (.initErr hd hs herr), herr]
      rfl
  · rw [hc.unique (.waits (.inl ⟨hd, hs⟩)), hd]
  · rcases leastCandidate_or_none s with ⟨i, hi, hleast⟩ | hnone
    · rw [hc.unique ((coreStep_iff _ _).mp (coreStep_leastCandidate h hd hok hi hleast))]
      rfl
    · exact absurd hnone hcand
  · rw [hc.unique ((coreStep_iff _ _).mp (coreStep_noCandidate h hd hok hmiss)), miss_drvState (h.retrySearching hd), hd]
  · rw [hc.unique (.searchErr hd (h.cursor_le_srcLen (.inl hd)) herr)]
    rfl
  · rw [hc.unique (.streamEnd hd hlen)]
    rfl
  · rw [hc.unique (.packetErr hd hlen (h.cursor_le_srcLen (.inr hd)) herr)]
    rfl
  · rw [hc.unique (.packetLoss hd hlen hok (hfit hd hlen) hlead)]
    rfl
  · obtain rfl : t = packetConsumed s := hc.unique (.packetOk hd hlen hok (hfit hd hlen) hlead)
    rcases ok_or_err s.dropStatus.nextStatus with hok' | herr
    · rw [(packetConsumed_ok (hfit hd hlen) hok').drvState, hd, hok']
      rfl
    · rw [packetConsumed_err herr, herr]
      rfl
  · rw [hc.unique (.waits (.inr (.inl hd))), hd]
  · rw [hc.unique (.waits (.inr (.inr hd))), hd]

/-- Settles O37: no core step is enabled, and no listed pair begins, in a terminal state (log 3). -/
theorem terminalStatesKeepEverything : Obligations.TerminalStatesKeepEverything := by
  refine ⟨fun s => step_of_terminal, fun s t hterm hstep hleft => ?_⟩
  rcases step_transition hstep with hstay | hpair | ⟨-, hreset⟩
  · exact absurd hstay hleft
  · rcases s.terminal_iff.mp hterm with hd | hd <;> simp [hd, coreTransition] at hpair
  · exact hreset

/-- Settles O32: the end-of-stream test is the first of STEP_LOCKED; a lock has 377 bytes ahead. -/
theorem streamEndsWhenNoWholePacketRemains : Obligations.StreamEndsWhenNoWholePacketRemains := by
  refine ⟨fun s hhost hd hlen => (CoreCase.streamEnd hd hlen).step_eq hhost, fun s t h hhost hd hstep ht => ?_⟩
  have hahead := (lockLeavesThreeSyncBytesAhead s t h (.inl hhost) hd hstep ht).1
  omega

/-! ### CURSOR -/

/-- The ways CURSOR moves: by a lock, by a consumed packet, or not at all (R174). -/
def CursorMove (s t : State) : Prop :=
  t.cursor = s.cursor ∨ (s.drvState = .searching ∧ t.drvState = .locked) ∨
    (s.drvState = .locked ∧ t.cursor.toNat = s.cursor.toNat + 188)

theorem CoreCase.cursorMove {s t : State} (hc : CoreCase s t) (h : Inv s) : CursorMove s t := by
  cases hc with
  | waits | streamEnd => exact .inl rfl
  | packetLoss => exact .inl (KeepsSearch.packetLoss s).cursor
  | initErr =>
    refine .inl ?_
    rw [enterFailed_eq, afterSrcLen_eq]
  | initOk hd => exact .inl (h.initZero hd).1.symm
  | searchErr =>
    refine .inl ?_
    rw [enterFailed_eq, loseWindow_eq, afterRead_eq]
  | searchHit hd => exact .inr (.inl ⟨hd, rfl⟩)
  | searchNone => exact .inl (KeepsSearch.miss s).cursor
  | packetErr =>
    refine .inl ?_
    rw [enterFailed_eq, losePacket_eq, afterRead_eq]
  | packetOk hd _ _ hfit =>
    rcases packetConsumed_streams hfit with ⟨-, hstays⟩ | hconsumes
    · exact .inl hstays
    · exact .inr (.inr ⟨hd, hconsumes.cursor⟩)

theorem startStep_cursor (k : Key) (s : State) : (startStep k s).cursor = s.cursor := by
  unfold startStep
  split <;> rfl

/-- Settles O45: a core step moves CURSOR forward if at all, the host's acts but reset leave it; the invariant bounds it by LEN. -/
theorem cursorOnlyMovesForward : Obligations.CursorOnlyMovesForward := by
  intro s t h hstep hreset
  have hmoves : s.cursor.toNat ≤ t.cursor.toNat ∧ CursorMove s t := by
    rcases (step_iff s t).mp hstep with ⟨-, hcore⟩ | ⟨a, rest, hhost, hact⟩
    · exact ⟨h.cursor_le_of_coreCase hcore, hcore.cursorMove h⟩
    · have hrest := h.setHost rest
      cases hact with
      | idle hcore => exact ⟨hrest.cursor_le_of_coreCase hcore, hcore.cursorMove hrest⟩
      | rst => exact absurd hhost (hreset rest)
      | start k =>
        have hstays : (startStep k (s.setHost rest)).cursor = s.cursor := startStep_cursor k _
        exact ⟨(congrArg BitVec.toNat hstays).ge, .inl hstays⟩
      | attach => exact ⟨le_refl _, .inl rfl⟩
  exact ⟨hmoves.1, (everyStepKeepsTheInvariant s t h hstep).cursorLeLen, hmoves.2⟩

end Sys2Proof.Machine
end

section
/-! PROOFS. Runs without I/O error: packets consumed after a lock (42_driver.md R178), and the shortest streams (R175). -/

namespace Sys2Proof.Machine

/-! ### Steps in a row -/

theorem steps_add {n k : Nat} {s t : State} (h : steps n s = .next t) : steps (n + k) s = steps k t := by
  induction n generalizing s with
  | zero =>
    cases h
    rw [Nat.zero_add]
  | succ n ih =>
    obtain ⟨u, hstep, hrest⟩ := steps_succ h
    rw [Nat.add_right_comm, steps_cons hstep, ih hrest]

/-! ### LOCKED without I/O error -/

/-- A state in LOCKED that no host act and no I/O error disturbs. -/
structure Locked (s : State) : Prop where
  inv : Inv s
  host : s.host = []
  allOk : s.allOk
  drvState : s.drvState = .locked

/-- `t` is `s` after `n` packets: still in LOCKED, both counters and the sink `188 * n` further (R169). -/
structure PacketsConsumed (n : Nat) (s t : State) : Prop where
  steps : steps n s = .next t
  locked : Locked t
  cursor : t.cursor.toNat = s.cursor.toNat + 188 * n
  bytesWritten : t.bytesWritten.toNat = s.bytesWritten.toNat + 188 * n
  snkLen : t.snkLen = s.snkLen + 188 * n
  len : t.len = s.len

theorem State.allOk.of_tail {s t : State} (h : s.allOk) (hdraws : t.ioDraws = s.ioDraws.tail) (hrest : t.ioRest = s.ioRest) :
    t.allOk :=
  ⟨fun d hd => h.1 d (List.mem_of_mem_tail (hdraws ▸ hd)), hrest.trans h.2⟩

namespace Locked

variable {s : State}

theorem fits (h : Locked s) {n : Nat} (hlen : s.cursor.toNat + n ≤ s.len.toNat) : s.cursor.toNat + n ≤ s.srcLen.toNat := by
  rwa [← h.inv.lenTrue (.inr h.drvState)]

/-- A packet with the sync byte is consumed (R169). -/
theorem packet (h : Locked s) (hsync : s.src.read s.cursor.toNat = Config.SYNC)
    (hlen : s.cursor.toNat + 188 ≤ s.len.toNat) :
    step s = .next (packetConsumed s) ∧ AdvancesPacket s (packetConsumed s) ∧ Locked (packetConsumed s) := by
  have hfit := h.fits hlen
  have hdrop : s.dropStatus.allOk := h.allOk.of_tail rfl rfl
  have hadv := packetConsumed_ok hfit hdrop.nextStatus
  have hc : CoreCase s (packetConsumed s) := .packetOk h.drvState (by omega) h.allOk.nextStatus hfit hsync
  exact ⟨hc.step_eq h.host, hadv, h.inv.coreCase hc, hadv.host.trans h.host, hdrop.of_tail hadv.ioDraws hadv.ioRest,
    hadv.drvState.trans h.drvState⟩

/-- As many packets as have their sync bytes and are whole are consumed in a row. -/
theorem packets {n : Nat} (h : Locked s) (hsync : ∀ j, j < n → s.src.read (s.cursor.toNat + 188 * j) = Config.SYNC)
    (hlen : s.cursor.toNat + 188 * n ≤ s.len.toNat) : ∃ t, PacketsConsumed n s t := by
  induction n generalizing s with
  | zero => exact ⟨s, rfl, h, rfl, rfl, rfl, rfl⟩
  | succ n ih =>
    obtain ⟨hstep, hadv, hlocked⟩ := h.packet (hsync 0 (Nat.succ_pos n)) (by omega)
    have hcursor := hadv.cursor
    have hwritten : (packetConsumed s).bytesWritten.toNat = s.bytesWritten.toNat + 188 := by
      have hle := h.inv.writtenLeCursor
      have hmax := offset_lt s.len
      rw [hadv.bytesWritten]
      exact offset_add_188 (by omega)
    have hsync' (j : Nat) (hj : j < n) :
        (packetConsumed s).src.read ((packetConsumed s).cursor.toNat + 188 * j) = Config.SYNC := by
      rw [hadv.src, hcursor, Nat.add_right_comm, Nat.add_assoc]
      exact hsync (j + 1) (by omega)
    obtain ⟨t, ht⟩ := ih hlocked hsync' (by rw [hcursor, hadv.len]; omega)
    have hsink := hadv.appends.snkLen
    refine ⟨t, (steps_cons hstep).trans ht.steps, ht.locked, ?_, ?_, ?_, ht.len.trans hadv.len⟩
    · rw [ht.cursor]
      omega
    · rw [ht.bytesWritten]
      omega
    · rw [ht.snkLen]
      omega

end Locked

theorem sourceTriple_sync {m : Memory} {a j : Nat} (h : sourceTriple m a) (hj : j < 3) :
    m.read (a + 188 * j) = Config.SYNC := by
  obtain ⟨h0, h1, h2⟩ := h
  interval_cases j
  · exact h0
  · exact h1
  · exact h2

/-- A lock is the one way of a search step into LOCKED. -/
theorem Searching.locks {s t : State} (h : Searching s) (hstep : step s = .next t) (ht : t.drvState = .locked) : Locked t := by
  have hc := coreCase_of_host_nil h.host hstep
  refine ⟨h.inv.coreCase hc, hc.frame.host.trans h.host, ?_, ht⟩
  rcases leastCandidate_or_none s with ⟨i, hcand, hleast⟩ | hnone
  · obtain rfl := Host.Outcome.next.inj (hstep.symm.trans (h.step_leastCandidate hcand hleast))
    exact h.allOk.searched
  · obtain rfl := Host.Outcome.next.inj (hstep.symm.trans (h.step_noCandidate hnone))
    rw [miss_drvState (h.inv.retrySearching h.drvState), h.drvState] at ht
    split at ht <;> cases ht

/-- Settles O41: a lock has three sync bytes and 377 bytes ahead. -/
theorem everyLockConsumesTwoPacketsOrThree : Obligations.EveryLockConsumesTwoPacketsOrThree := by
  intro s t hinv hhost hall hd hstep ht
  have hlocked : Locked t := Searching.locks ⟨hinv, hhost, hall, hd⟩ hstep ht
  obtain ⟨hahead, htriple, -⟩ := lockLeavesThreeSyncBytesAhead s t hinv (.inl hhost) hd hstep ht
  have hpackets {n : Nat} (hn : n ≤ 3) (hlen : t.cursor.toNat + 188 * n ≤ t.len.toNat) : ∃ u, PacketsConsumed n t u :=
    hlocked.packets (fun j hj => sourceTriple_sync htriple (by omega)) hlen
  refine ⟨?_, fun hwhole => ?_⟩
  · obtain ⟨u, hu⟩ := hpackets (n := 2) (by omega) (by omega)
    exact ⟨u, hu.steps, hu.locked.drvState, hu.cursor, hu.bytesWritten, hu.snkLen⟩
  · obtain ⟨u, hu⟩ := hpackets (n := 3) (by omega) (by omega)
    exact ⟨u, hu.steps, hu.locked.drvState, hu.cursor, hu.bytesWritten⟩

/-! ### The shortest streams -/

theorem lengthTaken_eq (s : State) : lengthTaken s = { s with
    ioDraws := s.ioDraws.tail, trace := s.trace ++ [.len s.srcLenAnswer], len := s.srcLen, cursor := 0, bytesWritten := 0,
    retry := 0, drvState := .searching } := by
  rw [lengthTaken, initOk_eq]

/-- STEP_INIT without I/O error begins a search (R162). -/
theorem lengthTaken_searching {s : State} (h : Inv s) (hhost : s.host = []) (hall : s.allOk) (hd : s.drvState = .init)
    (hs : s.started = true) : step s = .next (lengthTaken s) ∧ Searching (lengthTaken s) := by
  have hc : CoreCase s (lengthTaken s) := .initOk hd hs hall.nextStatus
  refine ⟨hc.step_eq hhost, h.lengthTaken hd hs, (KeepsStreams.lengthTaken s).host.trans hhost, ?_, ?_⟩
  · exact hall.of_tail (by rw [lengthTaken_eq]) (by rw [lengthTaken_eq])
  · rw [lengthTaken_eq]

/-- The first search begins at offset 0. -/
theorem lengthTaken_candidate_iff (s : State) (i : Nat) :
    Candidate (lengthTaken s) i ↔ i + 376 < min 1024 s.srcLen.toNat ∧ sourceTriple s.src i := by
  rw [candidate_iff, lengthTaken_eq]
  simp

theorem lengthTaken_windowRead (s : State) : windowRead (lengthTaken s) =
    .read 0 1024 (some (s.src.readBytes 0 (min 1024 s.srcLen.toNat))) := by
  rw [windowRead, lengthTaken_eq]
  rfl

theorem lengthTaken_trace_ok {s : State} (hok : s.nextStatus = .ok) :
    (lengthTaken s).trace = s.trace ++ [.len (some s.srcLen)] := by
  rw [lengthTaken_eq, srcLenAnswer_ok s hok]

/-- A first search that locks at offset 0 (R145). -/
theorem LocksAt.of_lengthTaken {s t : State} (h : LocksAt (lengthTaken s) t 0) :
    t.cursor.toNat = 0 ∧ t.len = s.srcLen ∧ t.bytesWritten.toNat = 0 ∧ t.src = s.src ∧ t.snkLen = s.snkLen := by
  rw [h.cursor, h.len, h.bytesWritten, h.src, h.snkLen, lengthTaken_eq]
  exact ⟨rfl, rfl, rfl, rfl, rfl⟩

/-- Settles O40: below 377 bytes no position is a candidate, so the search fails after ten reads; at 377 with a triple the lock is at 0
and two packets leave one byte. -/
theorem shortStreamsFailAndTheShortestLockEnds : Obligations.ShortStreamsFailAndTheShortestLockEnds := by
  refine ⟨fun s h hhost hall hd hs hshort => ?_, fun s h hhost hall hd hs hlen htriple => ?_⟩
  · obtain ⟨hinit, hsearch⟩ := lengthTaken_searching h hhost hall hd hs
    have hnone (i : Nat) : ¬ Candidate (lengthTaken s) i := by
      rw [lengthTaken_candidate_iff]
      omega
    obtain ⟨t, hsteps, ht⟩ := hsearch.exhausts (n := 9) hnone (by rw [lengthTaken_eq]; rfl)
    have hwritten : (lengthTaken s).bytesWritten = 0 := by rw [lengthTaken_eq]
    refine ⟨t, (steps_cons hinit).trans hsteps, ht.drvState, ht.failCause, ht.bytesWritten.trans hwritten,
      ht.snkLen.trans (KeepsStreams.lengthTaken s).snkLen, ?_⟩
    rw [ht.trace, lengthTaken_trace_ok hall.nextStatus, lengthTaken_windowRead, Nat.min_eq_right (by omega), List.append_assoc]
    rfl
  · obtain ⟨hinit, hsearch⟩ := lengthTaken_searching h hhost hall hd hs
    have hcand : Candidate (lengthTaken s) 0 := (lengthTaken_candidate_iff s 0).mpr ⟨by omega, htriple⟩
    have hlock := locksAt_of_candidate hsearch.inv hsearch.drvState hsearch.allOk.nextStatus hcand
    have hsearched := hsearch.step_leastCandidate hcand (by simp)
    generalize (searched (lengthTaken s)).lockAt 0 = u at hlock hsearched
    have hlocked := hsearch.locks hsearched hlock.drvState
    obtain ⟨hcursor, hulen, hwritten, hsrc, hsink⟩ := hlock.of_lengthTaken
    have hsync (j : Nat) (hj : j < 2) : u.src.read (u.cursor.toNat + 188 * j) = Config.SYNC := by
      rw [hsrc, hcursor]
      exact sourceTriple_sync htriple (by omega)
    obtain ⟨v, hv⟩ := hlocked.packets hsync (by rw [hcursor, hulen]; omega)
    have hvcursor : v.cursor.toNat = 376 := by rw [hv.cursor, hcursor]
    have hend : CoreCase v (v.setDrvState .done) := by
      refine .streamEnd hv.locked.drvState ?_
      rw [hv.len, hulen, hvcursor]
      omega
    have hsteps : steps 3 u = .next (v.setDrvState .done) :=
      (steps_add (k := 1) hv.steps).trans (steps_cons (hend.step_eq hv.locked.host))
    refine ⟨_, (steps_cons hinit).trans ((steps_cons hsearched).trans hsteps), rfl, ?_, ?_, ?_, hvcursor⟩
    · exact (hv.locked.inv.coreCase hend).failCause_of_not_failed (by simp)
    · exact hv.bytesWritten.trans (by rw [hwritten])
    · exact hv.snkLen.trans (by rw [hsink])

end Sys2Proof.Machine
end

section
/-! PROOFS. What a step that enters FAILED leaves, by cause (60_exceptions.md R197, R198, R202). -/

namespace Sys2Proof.Machine

/-! ### The three ways into FAILED -/

/-- The search is exhausted (R146, R147): beside RETRY, the window it read. -/
def ExhaustsSearch (s t : State) : Prop :=
  t.failCause = .syncExhausted ∧ t.retry = 10 ∧
    t = { s with
      drvState := .failed, failCause := .syncExhausted, retry := 10, w := t.w, wlen := t.wlen,
      events := s.events ++ [.syncExhausted s.cursor],
      host := t.host, ioDraws := t.ioDraws, trace := t.trace, freeCount := t.freeCount }

/-- A length query or a read fails (R197): beside the history, the buffer that was to be filled. -/
def FailsOnSource (s t : State) : Prop :=
  t.failCause = .srcIo ∧
    t = { s with
      drvState := .failed, failCause := .srcIo,
      p := if s.drvState = .locked then t.p else s.p,
      w := if s.drvState = .searching then t.w else s.w,
      wlen := if s.drvState = .searching then t.wlen else s.wlen,
      events := s.events ++ [.srcIoError (if s.drvState = .init then 0 else s.cursor)],
      host := t.host, ioDraws := t.ioDraws, trace := t.trace, freeCount := t.freeCount }

/-- An append fails (R198): the packet has been read and descrambled, nothing else has changed. -/
def FailsOnSink (s t : State) : Prop :=
  t.failCause = .snkIo ∧
    (∃ l, t.events = s.events ++ l ++ [.snkIoError s.bytesWritten]) ∧
    t = { s with
      drvState := .failed, failCause := .snkIo, p := t.p, o := t.o, iv := t.iv, wasScr := t.wasScr, rsvd := t.rsvd,
      pesWarn := t.pesWarn, events := t.events, host := t.host, ioDraws := t.ioDraws, trace := t.trace }

/-- One of the three, each with its own cause (R202). -/
def EntersFailed (s t : State) : Prop := ExhaustsSearch s t ∨ FailsOnSource s t ∨ FailsOnSink s t

/-! ### Each way of a core step that fails -/

theorem exhaustsSearch_tenthMiss {s : State} (hten : s.retry + 1 = 10#4) : ExhaustsSearch s (searchMiss (searched s)) := by
  rw [searchMiss_eq, searched_retry, if_pos hten, hten, searched_eq]
  exact ⟨rfl, rfl, rfl⟩

theorem failsOnSource_initErr {s : State} (hd : s.drvState = .init) :
    FailsOnSource s (s.afterSrcLen.enterFailed .srcIo (.srcIoError 0)) := by
  rw [enterFailed_eq, afterSrcLen_eq, FailsOnSource, hd]
  exact ⟨rfl, rfl⟩

theorem failsOnSource_windowReadFailed {s : State} (hd : s.drvState = .searching) : FailsOnSource s (windowReadFailed s) := by
  rw [windowReadFailed, enterFailed_eq, loseWindow_eq, afterRead_eq, FailsOnSource, hd]
  exact ⟨rfl, rfl⟩

theorem failsOnSource_packetReadFailed {s : State} (hd : s.drvState = .locked) : FailsOnSource s (packetReadFailed s) := by
  rw [packetReadFailed, enterFailed_eq, losePacket_eq, afterRead_eq, FailsOnSource, hd]
  exact ⟨rfl, rfl⟩

theorem failsOnSink_packetConsumed {s : State} (herr : s.dropStatus.nextStatus = .err) : FailsOnSink s (packetConsumed s) := by
  rw [packetConsumed_eq, appendPacket_err _ ((packetDelivered_nextStatus s).trans herr), packetDelivered, deliver_eq, fetched_eq]
  exact ⟨rfl, ⟨_, rfl⟩, rfl⟩

/-! ### The steps -/

theorem CoreCase.entersFailed {s t : State} (hc : CoreCase s t) (hs : s.drvState ≠ .failed) (ht : t.drvState = .failed) :
    EntersFailed s t := by
  cases hc with
  | waits => exact absurd ht hs
  | initOk | searchHit | streamEnd | packetLoss => cases ht
  | initErr hd => exact .inr (.inl (failsOnSource_initErr hd))
  | searchErr hd => exact .inr (.inl (failsOnSource_windowReadFailed hd))
  | searchNone =>
    by_cases hten : s.retry + 1 = 10#4
    · exact .inl (exhaustsSearch_tenthMiss hten)
    · rw [searchMiss_eq, searched_retry, if_neg hten] at ht
      exact absurd ((searched_drvState s).symm.trans ht) hs
  | packetErr hd => exact .inr (.inl (failsOnSource_packetReadFailed hd))
  | packetOk hd _ _ hfit =>
    rcases ok_or_err s.dropStatus.nextStatus with hok | herr
    · exact absurd ((packetConsumed_ok hfit hok).drvState.symm.trans ht) hs
    · exact .inr (.inr (failsOnSink_packetConsumed herr))

/-- Settles O46: no act of the host enters FAILED, and a core step enters it in one of the ways above. -/
theorem failureChangesOnlyWhatItNames : Obligations.FailureChangesOnlyWhatItNames := by
  intro s t hstep hs ht
  rcases (step_iff s t).mp hstep with ⟨-, hcore⟩ | ⟨a, rest, -, hact⟩
  · exact hcore.entersFailed hs ht
  · cases hact with
    | idle hcore => exact hcore.entersFailed hs ht
    | rst => cases ht
    | start k => exact absurd ((startStep_drvState k _).symm.trans ht) hs
    | attach => exact absurd ht hs

end Sys2Proof.Machine
end

section
/-! PROOFS. The events one step records (60_exceptions.md R190, R200): advisory ones of the descrambler, then one that ends the
step. -/

namespace Sys2Proof.Machine

/-- An event the descrambler raises on a packet with the sync byte (30_encoding.md R99). -/
def Event.Advisory (e : Event) : Prop := e.endsStep = false ∧ ∀ b, e ≠ .notSync b

/-- The events of `t` after those of `s` are what one step records (R200). -/
def RecordsEvents (s t : State) : Prop :=
  ∃ advisory ending, t.events = s.events ++ advisory ++ ending ∧ advisory.length ≤ 1 ∧ ending.length ≤ 1 ∧
    (∀ e ∈ ending, e.endsStep = true) ∧ (∀ e ∈ advisory, e.Advisory) ∧
    (advisory ≠ [] → t.trace.length ≠ s.trace.length ∧ ∀ c, Event.syncLoss c ∉ ending)

/-- A packet with the sync byte raises one advisory event at most (R88, R114, R124). -/
theorem decrypt_events {p : Packet} (hsync : byteAt p 0 = 0x47#8) (key : Key) :
    (decrypt p key).events.length ≤ 1 ∧ ∀ e ∈ (decrypt p key).events, e.Advisory := by
  have hwarn (ps : Nat) (warn : Bool) : (warnEvents ps warn).length ≤ 1 ∧ ∀ e ∈ warnEvents ps warn, e.Advisory := by
    cases warn <;> simp [warnEvents, Event.Advisory, Event.endsStep]
  unfold decrypt decryptWith
  cases hc : classOf p with
  | reject h => exact absurd hc (classOf_not_reject hsync h)
  | passClear h => simp [verbatim]
  | passRsvd h => simp [verbatim, Event.Advisory, Event.endsStep]
  | descNoaf h => exact hwarn _ _
  | descAf h l => exact hwarn _ _

/-- An append raises SnkIoError or nothing (R169, R198). -/
theorem appendPacket_events (s : State) :
    ∃ ending, (appendPacket s).events = s.events ++ ending ∧ ending.length ≤ 1 ∧
      ∀ e ∈ ending, e = .snkIoError s.bytesWritten := by
  rcases ok_or_err s.nextStatus with hok | herr
  · exact ⟨[], by simp [appendPacket_ok s hok]⟩
  · exact ⟨[.snkIoError s.bytesWritten], by simp [appendPacket_err s herr]⟩

theorem packetDelivered_events (s : State) :
    (packetDelivered s).events = s.events ++ (decrypt (packetAt s.src s.cursor.toNat) s.key).events := by
  rw [packetDelivered, deliver_eq]
  rfl

namespace RecordsEvents

variable {s t : State}

theorem of_events_eq (h : t.events = s.events) : RecordsEvents s t :=
  ⟨[], [], by simp [h]⟩

theorem of_events_one {e : Event} (h : t.events = s.events ++ [e]) (he : e.endsStep = true) : RecordsEvents s t :=
  ⟨[], [e], by simp [h, he]⟩

theorem miss (s : State) : RecordsEvents s (searchMiss (searched s)) := by
  rw [searchMiss_eq]
  split
  · exact .of_events_one (congrArg (· ++ _) (searched_events s)) rfl
  · exact .of_events_eq (searched_events s)

theorem packetConsumed (hlead : s.src.read s.cursor.toNat = Config.SYNC) : RecordsEvents s (packetConsumed s) := by
  have hsync : byteAt (packetAt s.src s.cursor.toNat) 0 = 0x47#8 := (fetched_lead s).trans hlead
  obtain ⟨hone, hadvisory⟩ := decrypt_events hsync s.key
  obtain ⟨_, _, _, _, htrace⟩ := packetConsumed_trace s
  obtain ⟨ending, hevents, hlast, hending⟩ := appendPacket_events (packetDelivered s)
  rw [packetDelivered_events] at hevents
  refine ⟨_, ending, hevents, hone, hlast, fun e he => ?_, hadvisory, fun _ => ⟨by simp [htrace], fun c hc => ?_⟩⟩
  · rw [hending e he]
    rfl
  · cases hending _ hc

end RecordsEvents

theorem CoreCase.recordsEvents {s t : State} (hc : CoreCase s t) : RecordsEvents s t := by
  cases hc with
  | waits | initOk | streamEnd => exact .of_events_eq rfl
  | initErr | packetErr | packetLoss => exact .of_events_one rfl rfl
  | searchErr =>
    rw [enterFailed_eq, loseWindow_eq]
    exact .of_events_one rfl rfl
  | searchHit => exact .of_events_eq (searched_events s)
  | searchNone => exact .miss s
  | packetOk _ _ _ _ hlead => exact .packetConsumed hlead

theorem startStep_events (k : Key) (s : State) : (startStep k s).events = s.events := by
  unfold startStep
  split <;> rfl

/-- Settles O47: reset, start and attach record no event; a core step records the descrambler's, then its ending. -/
theorem aStepEndsWithAtMostOneEvent : Obligations.AStepEndsWithAtMostOneEvent := by
  intro s t hstep
  rcases (step_iff s t).mp hstep with ⟨-, hcore⟩ | ⟨a, rest, -, hact⟩
  · exact hcore.recordsEvents
  · cases hact with
    | idle hcore => exact hcore.recordsEvents
    | rst | attach => exact RecordsEvents.of_events_eq rfl
    | start k => exact RecordsEvents.of_events_eq (startStep_events k _)

end Sys2Proof.Machine
end

section
/-! PROOFS. The outputs as views of DRV_STATE and FAIL_CAUSE (10_state.md R21, R22, R33; 60_exceptions.md R210). -/

namespace Sys2Proof.Machine

/-- The numbers of the causes (R28). -/
theorem outExitStatus_iff (s : State) :
    (s.outExitStatus = 0 ↔ s.failCause = .noCause) ∧ (s.outExitStatus = 1 ↔ s.failCause = .syncExhausted) ∧
    (s.outExitStatus = 2 ↔ s.failCause = .srcIo) ∧ (s.outExitStatus = 3 ↔ s.failCause = .snkIo) := by
  unfold State.outExitStatus
  cases s.failCause <;> decide

/-- The numbers of the states (R21). -/
theorem outDrvState_iff (s : State) :
    (s.outDrvState = 0 ↔ s.drvState = .init) ∧ (s.outDrvState = 1 ↔ s.drvState = .searching) ∧
    (s.outDrvState = 2 ↔ s.drvState = .locked) ∧ (s.outDrvState = 3 ↔ s.drvState = .done) ∧
    (s.outDrvState = 4 ↔ s.drvState = .failed) := by
  unfold State.outDrvState
  cases s.drvState <;> decide

theorem outSyncLocked_iff (s : State) : s.outSyncLocked = true ↔ s.drvState = .locked := beq_iff_eq

theorem outDone_iff (s : State) : s.outDone = true ↔ s.drvState = .done := beq_iff_eq

theorem outFailed_iff (s : State) : s.outFailed = true ↔ s.drvState = .failed := beq_iff_eq

/-- A core that has failed names its cause (R44 (d)). -/
theorem Inv.outExitStatus_of_failed {s : State} (h : Inv s) (hd : s.drvState = .failed) :
    s.outExitStatus = 1 ∨ s.outExitStatus = 2 ∨ s.outExitStatus = 3 := by
  have hcause := h.causeIffFailed.mpr hd
  unfold State.outExitStatus
  cases hc : s.failCause with
  | noCause => exact absurd hc hcause
  | syncExhausted => exact .inl rfl
  | srcIo => exact .inr (.inl rfl)
  | snkIo => exact .inr (.inr rfl)

/-- Settles O57: the invariant ties FAIL_CAUSE to FAILED (R44 (d)); the rest are the outputs' own equations. -/
theorem outputsAreViewsOfTheControlState : Obligations.OutputsAreViewsOfTheControlState := by
  intro s h
  obtain ⟨hzero, hone, htwo, hthree⟩ := outExitStatus_iff s
  refine ⟨fun hdone => hzero.mpr (h.failCause_of_not_failed ?_), fun hfailed => ?_, hzero, hone, htwo, hthree,
    outSyncLocked_iff s, outDone_iff s, outFailed_iff s, outDrvState_iff s⟩
  · simp [(outDone_iff s).mp hdone]
  · exact h.outExitStatus_of_failed ((outFailed_iff s).mp hfailed)

end Sys2Proof.Machine
end

section
/-! PROOFS. The host's acts (70_reset_and_hazards.md R220, R222, R224, R233): reset, the latch of the key, the
attach of a source. -/

namespace Sys2Proof.Machine

/-! ### The acts, case by case -/

theorem step_rst {s : State} {rest : List HostAct} (h : s.host = .rst :: rest) :
    step s = .next (resetStep (s.setHost rest)) := step_act s .rst rest h

theorem step_start {s : State} {k : Key} {rest : List HostAct} (h : s.host = .start k :: rest) :
    step s = .next (startStep k (s.setHost rest)) := step_act s (.start k) rest h

theorem step_attach {s : State} {l : List Byte} {rest : List HostAct} (h : s.host = .attach l :: rest) :
    step s = attachStep l (s.setHost rest) := step_act s (.attach l) rest h

/-- The start step in INIT with STARTED 0 (R222). -/
theorem startStep_latches {s : State} (hd : s.drvState = .init) (hs : s.started = false) (k : Key) :
    startStep k s = { s with key := k, started := true, runBase := s.snkLen } := if_pos ⟨hd, hs⟩

/-- The start step anywhere else (R222). -/
theorem startStep_ignored {s : State} (h : ¬(s.drvState = .init ∧ s.started = false)) (k : Key) : startStep k s = s :=
  if_neg h

/-- During a run the guard of the start step does not hold (R222). -/
theorem not_startable_of_runGoesOn {s : State} (h : runGoesOn s = true) : ¬(s.drvState = .init ∧ s.started = false) := by
  rintro ⟨hd, hs⟩
  simp [runGoesOn, hd, hs] at h

theorem attachStep_duringRun {s : State} (h : runGoesOn s = true) (l : List Byte) :
    attachStep l s = .refused .sourceChangedDuringRun := if_pos h

/-- An attach between runs replaces the source (R224 (2)). -/
theorem attachStep_betweenRuns {s : State} (h : runGoesOn s = false) {l : List Byte} (hl : l.length < 2 ^ 64) :
    attachStep l s = .next (s.setSource (Memory.ofBytes l) (BitVec.ofNat 64 l.length)) :=
  (hostStep_iff (.attach l) s _).mpr (.attach l h hl)

/-- During a run no act of the host but reset touches KEY or STARTED (R233). -/
theorem HostCase.keyStable {s t : State} {a : HostAct} (hc : HostCase s a t) (hrun : runGoesOn s = true) (ha : a ≠ .rst) :
    t.key = s.key ∧ t.started = s.started := by
  cases hc with
  | idle hcore => exact ⟨hcore.frame.key, hcore.frame.started⟩
  | rst => exact absurd rfl ha
  | start k => simp [startStep_ignored (not_startable_of_runGoesOn hrun)]
  | attach l hfree hlen => exact ⟨rfl, rfl⟩

/-! ### The statements -/

/-- Settles O51: the core never writes KEY or STARTED, and a start during a run is ignored. -/
theorem keyIsStableDuringARun : Obligations.KeyIsStableDuringARun := by
  intro s t hrun hstep hnorst
  rcases (step_iff s t).mp hstep with ⟨-, hcore⟩ | ⟨a, rest, hhost, hact⟩
  · exact ⟨hcore.frame.key, hcore.frame.started⟩
  · exact hact.keyStable hrun fun ha => hnorst rest (ha ▸ hhost)

/-- Settles O53: the reset step's record, field by field. -/
theorem resetStepIsEnabledEverywhere : Obligations.ResetStepIsEnabledEverywhere := fun _ _ h =>
  ⟨_, step_rst h, rfl, rfl, rfl, rfl, rfl, rfl, rfl, rfl, rfl, rfl, rfl, rfl, rfl, rfl⟩

/-- Settles O54: the two branches of the start step. -/
theorem startLatchesTheKeyOnce : Obligations.StartLatchesTheKeyOnce := by
  intro s k rest h
  rw [step_start h]
  constructor
  · intro hd hs
    exact ⟨_, rfl, by rw [startStep_latches (s := s.setHost rest) hd hs]; rfl⟩
  · intro hguard
    rw [startStep_ignored (s := s.setHost rest) hguard]
    rfl

/-- Settles O55: between runs the source becomes the memory of the bytes attached; during one the act is refused. -/
theorem sourceIsAttachedBetweenRunsOnly : Obligations.SourceIsAttachedBetweenRunsOnly := by
  intro s l rest h
  rw [step_attach h]
  constructor
  · intro hrun hlen
    have hcount : (BitVec.ofNat 64 l.length).toNat = l.length := by
      rw [BitVec.toNat_ofNat, Nat.mod_eq_of_lt hlen]
    exact ⟨_, attachStep_betweenRuns (s := s.setHost rest) hrun hlen, hcount, Memory.ofBytes_wf l,
      fun _ ha => Memory.read_ofBytes l ha, rfl⟩
  · intro hrun
    exact attachStep_duringRun (s := s.setHost rest) hrun l

end Sys2Proof.Machine
end
